-- ==== Sys2Proof/Word.lean ====
section
/-! DEFINITION. The number types of the block (00_scope.md R9, 20_memory.md R62): every quantity is an
unsigned number bounded by the width of the port or register that holds it, so operation words, raw counts and PWM
values are of type Nat, and their bounds are checked or proved properties. There is no byte order and no signed
quantity. -/

namespace Sys2Proof

/-- The index of a blink step, 0 to 3, two bits: its addition wraps modulo 4 (10_state.md R30). -/
abbrev StepIndex := Fin 4

end Sys2Proof
end

