-- ==== Sys2Proof/Config.lean ====
section
/-! DEFINITION. The implementation parameters (00_scope.md R4, R5). The OPEN ones are the fields of
`Config`, and a machine state carries the `Config` it was built with, so a statement about every state is
a statement about every value of them. DESIGN CHOICE (log entry 1). -/

namespace Sys2Proof

/-- `TPD`: raw ticks per logical unit, 4 for this hardware (R4, R5). -/
abbrev Config.ticksPerDetent : Nat := 4

/-- `SETTLE_UNITS`: the settle delay in time units, the constant on `delay_units` (R4, R5). -/
abbrev Config.settleUnits : Nat := 2

/-- `NCH`: the number of channels (R4). -/
abbrev Config.channelCount : Nat := 4

/-- `NSTEP`: the number of blink steps (R4). -/
abbrev Config.blinkStepCount : Nat := 4

/-- The OPEN parameters of the block with the constraints of R4 and R5. The constraints are part of the
data, so a configuration the spec refuses (`N < 2`, 92_eei_decisions.md D16) cannot be written down
(DEDUCED, log entry 2). -/
structure Config where
  /-- `N`, `max_logical_value`. -/
  n : Nat
  /-- `RAW_W`, the width of `raw_count`, `raw_position` and `ctr_load_val`. -/
  rawW : Nat
  /-- `PWM_W`, the width of `pwm_value`. -/
  pwmW : Nat
  /-- `BLINK_FULL`, the level the blink sequencer commands as "full". -/
  blinkFull : Nat
  /-- R5: `N >= 2`. -/
  two_le_n : 2 ≤ n
  /-- R4: `2^RAW_W > MAX_COUNT`, with `MAX_COUNT = TPD * N`. -/
  maxCount_fits : Config.ticksPerDetent * n < 2 ^ rawW
  /-- R4: `2^PWM_W > N`. -/
  n_fits : n < 2 ^ pwmW
  /-- R5: `BLINK_FULL < 2^PWM_W`. -/
  blinkFull_fits : blinkFull < 2 ^ pwmW
deriving DecidableEq, Repr

/-- `MAX_COUNT = TPD * N`, the raw counter's maximum (R4, R5). -/
def Config.maxCount (c : Config) : Nat := Config.ticksPerDetent * c.n

/-- `LV_W = ceil(log2(N + 1))`, the width of `logical_value` (R4): for `N >= 1` one more than the integer
logarithm of `N`. -/
def Config.lvW (c : Config) : Nat := Nat.log2 c.n + 1

/-- Reference configuration A (R6). -/
def Config.referenceA : Config where
  n := 50
  rawW := 16
  pwmW := 16
  blinkFull := 200
  two_le_n := by decide
  maxCount_fits := by decide
  n_fits := by decide
  blinkFull_fits := by decide

/-- Reference configuration B (R6); its `BLINK_FULL` is OPEN. -/
def Config.referenceB (blinkFull : Nat) (fits : blinkFull < 2 ^ 16) : Config where
  n := 100
  rawW := 16
  pwmW := 16
  blinkFull := blinkFull
  two_le_n := by decide
  maxCount_fits := by decide
  n_fits := by decide
  blinkFull_fits := fits

end Sys2Proof
end

