-- ==== Sys2Proof/Syntax.lean ====
section
/-! DEFINITION. The operations, one constructor per row of spec/opcode_table.json (30_encoding.md R83, R84).
An operation carries the operands it reads; the fields it ignores are no part of it (R85, log entry 19). -/

namespace Sys2Proof

/-- An operation of the block, the spec's stand-in for an instruction (00_scope.md R12). -/
inductive Instr where
  /-- NOP (R112). -/
  | nop
  /-- POLL with the three raw inputs sampled in one main-loop iteration (R113): the counter value, the level
  of the direction bit (`true` = 1) and the level of the button pin (`true` = 1 = released). -/
  | poll (rawCount : Nat) (rawDir : Bool) (btnPin : Bool)
  /-- DELAY_DONE (R115, R116). -/
  | delayDone
  /-- TICK with `tick_id` HEARTBEAT (R118). -/
  | tickHeartbeat
  /-- TICK with `tick_id` BLINK (R119). -/
  | tickBlink
  /-- TICK with the reserved `tick_id` `0b10` (R120). -/
  | tickReserved2
  /-- TICK with the reserved `tick_id` `0b11` (R120). -/
  | tickReserved3
  /-- The reserved operation code `0b100` (R121). -/
  | reservedOp4
  /-- The reserved operation code `0b101` (R121). -/
  | reservedOp5
  /-- The reserved operation code `0b110` (R121). -/
  | reservedOp6
  /-- The reserved operation code `0b111` (R121). -/
  | reservedOp7
deriving DecidableEq, Repr

end Sys2Proof
end

