-- ==== Sys2Proof/WellFormed.lean ====
section
/-! DEFINITION. What an operation and a set of parameters must satisfy to exist at all. -/

namespace Sys2Proof

/-- The operand of a POLL fits its port: `raw_count < 2^RAW_W` (30_encoding.md R80, R82). The other operands
are one bit wide. A `raw_count` above `MAX_COUNT` is well-formed and out of range (R86). -/
def Instr.wellFormed (rawW : Nat) : Instr → Bool
  | .poll rawCount _ _ => decide (rawCount < 2 ^ rawW)
  | .nop => true
  | .delayDone => true
  | .tickHeartbeat => true
  | .tickBlink => true
  | .tickReserved2 => true
  | .tickReserved3 => true
  | .reservedOp4 => true
  | .reservedOp5 => true
  | .reservedOp6 => true
  | .reservedOp7 => true

/-- The parameters as a `Config`, or nothing where one of the constraints of 00_scope.md R4 and R5 fails. -/
def Config.check (n rawW pwmW : Nat) (blinkFull : Nat) : Option Config :=
  if hn : 2 ≤ n then
    if hmax : Config.ticksPerDetent * n < 2 ^ rawW then
      if hlv : n < 2 ^ pwmW then
        if hfull : blinkFull < 2 ^ pwmW then
          some ⟨n, rawW, pwmW, blinkFull, hn, hmax, hlv, hfull⟩
        else none
      else none
    else none
  else none

end Sys2Proof
end

