-- ==== Sys2Proof/Decode.lean ====
section
/-! DEFINITION. The operation word (30_encoding.md R82 to R86): its fields for a general `RAW_W`, the decoder,
the encoder, and the opcode table's numbering of the word. -/

namespace Sys2Proof

/-- The one way a number fails to be an operation word: it has a bit above the `RAW_W + 7` bits of the ports.
Among the words of that width none is illegal (R86). -/
inductive DecodeError where
  /-- The number is `2^(RAW_W + 7)` or more: no value of the input ports. Safe: the hardware has no such
  input (log entry 9). -/
  | wordTooWide
deriving DecidableEq, Repr

/-- `w[hi:lo]`, the slice of bits `hi` down to `lo` as an unsigned number (00_scope.md R9). -/
def bitSlice (w : Nat) (hi lo : Nat) : Nat := w / 2 ^ lo % 2 ^ (hi + 1 - lo)

/-- `w[i]` as a level. -/
def bitAt (w : Nat) (i : Nat) : Bool := decide (bitSlice w i i = 1)

/-- A level as the number of its bit. -/
def bitOf (b : Bool) : Nat := if b then 1 else 0

/-- Everything from bit `RAW_W + 4` up: the field `op` of R82, and 8 or more where the number is wider than an
operation word. -/
def opField (rawW : Nat) (w : Nat) : Nat := w / 2 ^ (rawW + 4)

/-- The field `tick_id` of R82. -/
def tickIdField (rawW : Nat) (w : Nat) : Nat := bitSlice w (rawW + 3) (rawW + 2)

/-- The field `btn_pin` of R82. -/
def btnPinField (rawW : Nat) (w : Nat) : Bool := bitAt w (rawW + 1)

/-- The field `raw_dir` of R82. -/
def rawDirField (rawW : Nat) (w : Nat) : Bool := bitAt w rawW

/-- The field `raw_count` of R82. -/
def rawCountField (rawW : Nat) (w : Nat) : Nat := w % 2 ^ rawW

/-- TICK by its `tick_id` (R84). -/
def decodeTick (tickId : Nat) : Instr :=
  match tickId with
  | 0 => .tickHeartbeat
  | 1 => .tickBlink
  | 2 => .tickReserved2
  | _ => .tickReserved3

/-- The decoder: `op`, then `tick_id` if `op == 0b011` (R83, R84, R93). The fields an operation does not read are
ignored (R85). -/
def decode (rawW : Nat) (w : Nat) : Except DecodeError Instr :=
  match opField rawW w with
  | 0 => .ok .nop
  | 1 => .ok (.poll (rawCountField rawW w) (rawDirField rawW w) (btnPinField rawW w))
  | 2 => .ok .delayDone
  | 3 => .ok (decodeTick (tickIdField rawW w))
  | 4 => .ok .reservedOp4
  | 5 => .ok .reservedOp5
  | 6 => .ok .reservedOp6
  | 7 => .ok .reservedOp7
  | _ => .error .wordTooWide

/-- The operation word with the given field values, `{op, tick_id, btn_pin, raw_dir, raw_count}` (R82). -/
def packWord (rawW op tickId : Nat) (btnPin rawDir : Bool) (rawCount : Nat) : Nat :=
  op * 2 ^ (rawW + 4) + tickId * 2 ^ (rawW + 2) + bitOf btnPin * 2 ^ (rawW + 1)
    + bitOf rawDir * 2 ^ rawW + rawCount

/-- The canonical operation word of an operation: 0 in every ignored field (R83, R84, R85, R89). -/
def encode (rawW : Nat) : Instr → Nat
  | .nop => packWord rawW 0 0 false false 0
  | .poll rawCount rawDir btnPin => packWord rawW 1 0 btnPin rawDir rawCount
  | .delayDone => packWord rawW 2 0 false false 0
  | .tickHeartbeat => packWord rawW 3 0 false false 0
  | .tickBlink => packWord rawW 3 1 false false 0
  | .tickReserved2 => packWord rawW 3 2 false false 0
  | .tickReserved3 => packWord rawW 3 3 false false 0
  | .reservedOp4 => packWord rawW 4 0 false false 0
  | .reservedOp5 => packWord rawW 5 0 false false 0
  | .reservedOp6 => packWord rawW 6 0 false false 0
  | .reservedOp7 => packWord rawW 7 0 false false 0

/-- `RAW_W` of the opcode table, whose format is `OPWORD23` (R85). -/
def tableRawW : Nat := 16

/-- What the decoder reads from an operation whose lowest `nbits` bits are those of `w` and whose other bits
are 0, numbered as spec/opcode_table.json numbers them: the block has one word per operation and no bytes
(20_memory.md R62), so the table's bit `i` is bit `i` of the word (log entry 20). -/
def decodeTableWord (nbits w : Nat) : Option Instr :=
  match decode tableRawW (w % 2 ^ nbits) with
  | .ok i => some i
  | .error _ => none

/-- A word of the opcode table laid out for another `RAW_W`: the five upper fields keep their order directly
above `raw_count` (R82). A `raw_count` that does not fit gives a number that is no operation word, so it is
refused and never truncated (log entry 20). -/
def tableWordFor (rawW w : Nat) : Nat :=
  if w % 2 ^ tableRawW < 2 ^ rawW then
    w / 2 ^ tableRawW * 2 ^ rawW + w % 2 ^ tableRawW
  else 2 ^ (rawW + 7)

end Sys2Proof
end

