-- ==== Sys2Proof/Machine/State.lean ====
section
/-! DEFINITION. The machine's state as plain data: the eleven registers of the block (10_state.md R20) and, beside
them, what a run needs to be written down: the parameters (00_scope.md R4), the outputs driven by the latest
clock edge (30_encoding.md R81, R92), the last commanded PWM levels (45_pwm_output_port.md R205) and the input
samples still to come (30_encoding.md R80). -/

namespace Sys2Proof.Machine

/-- A PWM channel (10_state.md R28). -/
inductive Channel where
  | ch1 | ch2 | ch3 | ch4
deriving DecidableEq, Repr

/-- The direction of rotation (10_state.md R23). -/
inductive Direction where
  | cw | ccw
deriving DecidableEq, Repr

/-- The event output `edge` (30_encoding.md R87). -/
inductive Edge where
  | none | pressed | released
deriving DecidableEq, Repr

/-- The event output `wrap_event` (30_encoding.md R87): WRAP_LOW is a re-seed to 0, WRAP_HIGH one to `MAX_COUNT`. -/
inductive WrapEvent where
  | none | low | high
deriving DecidableEq, Repr

/-- The component that issued a PWM command (30_encoding.md R87). The code NONE is the absence of a command. -/
inductive PwmSrc where
  | normalizer | selector | blink
deriving DecidableEq, Repr

/-- One command on the PWM command port (45_pwm_output_port.md R200). -/
structure PwmCommand where
  channel : Channel
  value : Nat
  src : PwmSrc
deriving DecidableEq, Repr

/-- The event outputs of one clock edge with the payload of each that is set (10_state.md R34). A payload output
without its strobe is not defined, so it is absent (93_implementation_defined.md U12, log entry 11). -/
structure Out where
  valueChanged : Bool
  dirChanged : Bool
  wrapEvent : WrapEvent
  edge : Edge
  /-- `ctr_load` with `ctr_load_val`. -/
  ctrLoad : Option Nat
  /-- `pwm_valid` with `pwm_channel`, `pwm_value`, `pwm_src`. -/
  pwm : Option PwmCommand
  /-- `delay_req`. -/
  delayReq : Bool
deriving DecidableEq, Repr

/-- Every event output at its idle value (10_state.md R34). -/
def Out.idle : Out where
  valueChanged := false
  dirChanged := false
  wrapEvent := .none
  edge := .none
  ctrLoad := .none
  pwm := .none
  delayReq := false

/-- The last commanded value of each PWM channel, the external PWM channel space (20_memory.md R61,
45_pwm_output_port.md R205). The block never reads it (R206). -/
structure Levels where
  ch1 : Nat
  ch2 : Nat
  ch3 : Nat
  ch4 : Nat
deriving DecidableEq, Repr

/-- The input ports at one rising clock edge (30_encoding.md R80), `op`, `tick_id`, `btn_pin`, `raw_dir` and
`raw_count` side by side as the operation word (R82). -/
structure Cycle where
  rst : Bool
  opValid : Bool
  word : Nat
deriving DecidableEq, Repr

/-- The whole state of the model. -/
structure State where
  /-- The parameters the block was built with; not state of the block (10_state.md R39), written by no step. -/
  cfg : Config
  /-- `raw_position` (R21). -/
  rawPosition : Nat
  /-- `logical_value` (R22). -/
  logicalValue : Nat
  /-- `direction` (R23). -/
  direction : Direction
  /-- `is_pressed` (R25). -/
  isPressed : Bool
  /-- `last_observed_raw` (R26), `true` = pressed. -/
  lastObservedRaw : Bool
  /-- `settling` (R27). -/
  settling : Bool
  /-- `active_channel` (R28). -/
  activeChannel : Channel
  /-- `armed` (R29). -/
  armed : Bool
  /-- `step` (R30). -/
  step : StepIndex
  /-- `target_channel` (R31). -/
  targetChannel : Channel
  /-- `hb_led` (R35). -/
  hbLed : Bool
  /-- The event and payload outputs driven from the latest clock edge until the next (30_encoding.md R92). -/
  out : Out
  /-- The last commanded PWM levels, outside the block (45_pwm_output_port.md R205). -/
  levels : Levels
  /-- The environment's input samples still to come, the next one first (30_encoding.md R92). -/
  inputs : List Cycle
deriving DecidableEq, Repr

/-- The block raises no exception: there is no fault (60_exceptions.md R210). -/
inductive Fault where
deriving DecidableEq, Repr

/-- Why a step answers no next state. -/
inductive Refusal where
  /-- Raised by an arm of `exec` for an operation without a meaning; no arm of this model uses it. Safe. -/
  | notModelled (mnemonic : String)
  /-- Raised by an effective POLL whose `raw_count` exceeds `MAX_COUNT`: the spec gives it no meaning and says
  that a model refuses it (41_encoder_normalizer.md R142). Safe (log entry 6). -/
  | rawCountOutOfRange
  /-- Raised at the clock edge for a number wider than an operation word, which no value of the input ports
  spells. Safe (log entry 9). -/
  | notAnOperationWord
deriving DecidableEq, Repr

/-- The state after the first reset of a block with the parameters `c`: the registers as 10_state.md R38 says,
every event output idle (70_reset_and_hazards.md R242), the channels at the boot level 0 (R205, R243) and no
input sample yet. -/
def State.resetFor (c : Config) : State where
  cfg := c
  rawPosition := 0
  logicalValue := 0
  direction := .cw
  isPressed := false
  lastObservedRaw := false
  settling := false
  activeChannel := .ch1
  armed := false
  step := 0
  targetChannel := .ch1
  hbLed := false
  out := Out.idle
  levels := ⟨0, 0, 0, 0⟩
  inputs := []

/-- The state after reset, in reference configuration A (00_scope.md R6; DESIGN CHOICE, log entry 1). -/
def State.reset : State := State.resetFor Config.referenceA

end Sys2Proof.Machine
end

