-- ==== Sys2Proof/Machine/Operands.lean ====
section
/-! DEFINITION. Operand assembly and code values (30_encoding.md R87, R88): what the operations compute from the
fields of their word, the channel cycle, and the code of every enumeration. -/

namespace Sys2Proof.Machine

/-- The candidate logical value, `raw_count / TPD`, floor division (41_encoder_normalizer.md R131). -/
def candidate (rawCount : Nat) : Nat := rawCount / Config.ticksPerDetent

/-- The decoded direction: CW when the bit is 0, CCW when it is 1 (41_encoder_normalizer.md R132). -/
def decodeDirection (rawDir : Bool) : Direction := if rawDir then .ccw else .cw

/-- The pressed reading of the active-low pin (42_button_debouncer.md R151). -/
def pressedNow (btnPin : Bool) : Bool := !btnPin

/-- Whether the counter reads inside its range `0 .. MAX_COUNT` (41_encoder_normalizer.md R142). -/
def rawCountInRange (c : Config) (rawCount : Nat) : Bool := decide (rawCount ≤ c.maxCount)

/-- The successor in the fixed cyclic order CH1, CH2, CH3, CH4, CH1 (43_channel_selector.md R171). -/
def Channel.next : Channel → Channel
  | .ch1 => .ch2
  | .ch2 => .ch3
  | .ch3 => .ch4
  | .ch4 => .ch1

/-- The code of a channel (R87). -/
def Channel.code : Channel → Nat
  | .ch1 => 0
  | .ch2 => 1
  | .ch3 => 2
  | .ch4 => 3

/-- The channel with a given 2-bit code (R87); every code is legal (20_memory.md R63). -/
def Channel.ofCode (k : Fin 4) : Channel :=
  match k with
  | 0 => .ch1
  | 1 => .ch2
  | 2 => .ch3
  | 3 => .ch4

/-- The code of a direction (R87). -/
def Direction.code : Direction → Nat
  | .cw => 0
  | .ccw => 1

/-- The code of an edge (R87); `0b11` is the code of none. -/
def Edge.code : Edge → Nat
  | .none => 0
  | .pressed => 1
  | .released => 2

/-- The code of a wrap event (R87); `0b11` is the code of none. -/
def WrapEvent.code : WrapEvent → Nat
  | .none => 0
  | .low => 1
  | .high => 2

/-- The code of a PWM source (R87). -/
def PwmSrc.code : PwmSrc → Nat
  | .normalizer => 1
  | .selector => 2
  | .blink => 3

/-- The code shown on `pwm_src`: NONE = 0 when there is no command (R87, 45_pwm_output_port.md R200). -/
def pwmSrcCode (command : Option PwmCommand) : Nat :=
  match command with
  | .none => 0
  | .some c => c.src.code

end Sys2Proof.Machine
end

