-- ==== Sys2Proof/Machine/Ops.lean ====
section
/-! DEFINITION. The shared operations of a step: the start of every step (40_operations.md R111), the output
primitives PwmWrite, CtrLoad and DelayReq (00_scope.md R10), reset, and the reading of the next input sample.
There is no exception to take and no return from one: taking a tick saves nothing and switches nothing
(60_exceptions.md R210, R217, R218). -/

namespace Sys2Proof.Machine

/-- The last commanded value of a channel (45_pwm_output_port.md R205). -/
def Levels.get (l : Levels) : Channel → Nat
  | .ch1 => l.ch1
  | .ch2 => l.ch2
  | .ch3 => l.ch3
  | .ch4 => l.ch4

/-- The record after a command of `v` to a channel (45_pwm_output_port.md R205). -/
def Levels.set (l : Levels) (ch : Channel) (v : Nat) : Levels :=
  match ch with
  | .ch1 => { l with ch1 := v }
  | .ch2 => { l with ch2 := v }
  | .ch3 => { l with ch3 := v }
  | .ch4 => { l with ch4 := v }

/-- The start of every step: every event output takes its idle value, every register keeps its own
(40_operations.md R111). -/
def State.accept (s : State) : State := { s with out := Out.idle }

/-- `PwmWrite(ch, v, src)`: one command on the PWM command port and its effect on the external channel space
(45_pwm_output_port.md R200, R205). `zext` to `PWM_W` bits leaves the number as it is; that it fits is an
invariant. -/
def State.pwmWrite (s : State) (ch : Channel) (v : Nat) (src : PwmSrc) : State :=
  { s with out := { s.out with pwm := some ⟨ch, v, src⟩ }, levels := s.levels.set ch v }

/-- `CtrLoad(v)`: one load of the external quadrature counter (20_memory.md R70). -/
def State.ctrLoad (s : State) (v : Nat) : State :=
  { s with out := { s.out with ctrLoad := some v } }

/-- `DelayReq(SETTLE_UNITS)`: one delay request (42_button_debouncer.md R153). The units are the constant
`Config.settleUnits`. -/
def State.requestDelay (s : State) : State :=
  { s with out := { s.out with delayReq := true } }

/-- A rising edge with `rst = 1`: every register takes its reset value and every event output its idle value
(70_reset_and_hazards.md R240 to R242). The parameters, the levels last commanded (45_pwm_output_port.md R205) and
the environment's samples are no registers of the block and stay. -/
def State.resetEdge (s : State) : State :=
  { State.resetFor s.cfg with levels := s.levels, inputs := s.inputs }

/-- A rising edge with `rst = 0` and `op_valid = 0`: no register changes and every event output is idle
(40_operations.md R122). -/
def State.idleEdge (s : State) : State := s.accept

/-- The input sample at the next rising edge with the state that no longer holds it. Where the environment
presents nothing, the sample is an idle cycle (log entry 3). -/
def State.takeSample (s : State) : Cycle × State :=
  match s.inputs with
  | [] => (⟨false, false, 0⟩, s)
  | c :: rest => (c, { s with inputs := rest })

/-- The state to whose next rising edge the environment presents the operation word `w` (30_encoding.md R92). -/
def State.present (s : State) (w : Nat) : State :=
  { s with inputs := ⟨false, true, w⟩ :: s.inputs }

end Sys2Proof.Machine
end

