-- ==== Sys2Proof/Machine/Flags.lean ====
section
/-! DEFINITION. The output ports (30_encoding.md R81): there is no flag register, and the block's status is the event
outputs of the latest step and the status outputs, which show registers (10_state.md R34, R36). -/

namespace Sys2Proof.Machine

/-- Every output port as the number on its wires (R81, with the codes of R87). A payload output is absent where its
strobe is 0 (93_implementation_defined.md U12). -/
structure OutputPorts where
  ctrLoad : Nat
  ctrLoadVal : Option Nat
  pwmValid : Nat
  pwmChannel : Option Nat
  pwmValue : Option Nat
  pwmSrc : Nat
  delayReq : Nat
  delayUnits : Nat
  valueChanged : Nat
  dirChanged : Nat
  wrapEvent : Nat
  edge : Nat
  busy : Nat
  rawPosition : Nat
  logicalValue : Nat
  direction : Nat
  isPressed : Nat
  activeChannel : Nat
  blinkArmed : Nat
  blinkStep : Nat
  blinkTarget : Nat
  hbLed : Nat
deriving DecidableEq, Repr

/-- `busy`, which shows `settling` (R81). -/
def State.busy (s : State) : Bool := s.settling

/-- The output ports in a state (R81). -/
def State.ports (s : State) : OutputPorts where
  ctrLoad := bitOf s.out.ctrLoad.isSome
  ctrLoadVal := s.out.ctrLoad
  pwmValid := bitOf s.out.pwm.isSome
  pwmChannel := s.out.pwm.map (fun c => c.channel.code)
  pwmValue := s.out.pwm.map (fun c => c.value)
  pwmSrc := pwmSrcCode s.out.pwm
  delayReq := bitOf s.out.delayReq
  delayUnits := Config.settleUnits
  valueChanged := bitOf s.out.valueChanged
  dirChanged := bitOf s.out.dirChanged
  wrapEvent := s.out.wrapEvent.code
  edge := s.out.edge.code
  busy := bitOf s.busy
  rawPosition := s.rawPosition
  logicalValue := s.logicalValue
  direction := s.direction.code
  isPressed := bitOf s.isPressed
  activeChannel := s.activeChannel.code
  blinkArmed := bitOf s.armed
  blinkStep := s.step.val
  blinkTarget := s.targetChannel.code
  hbLed := bitOf s.hbLed

end Sys2Proof.Machine
end

