-- ==== Sys2Proof/Machine/BlinkSequencer.lean ====
section
/-! DEFINITION. The Blink Sequencer (44_blink_sequencer.md): procedures ARM (R186) and BLINK_STEP (R187). -/

namespace Sys2Proof.Machine

/-- ARM: Step0 on the channel `t`, whatever the sequence was doing (R186, R190). -/
def State.arm (s : State) (t : Channel) : State :=
  { s with armed := true, step := 0, targetChannel := t }

/-- The level a blink step commands: "full" in Step0 and Step2, 0 in Step1 and Step3 (R185, R187). -/
def blinkLevel (c : Config) (step : StepIndex) : Nat :=
  if step = 0 ∨ step = 2 then c.blinkFull else 0

/-- BLINK_STEP (R187): nothing when Idle (R188), which reads only `armed` (10_state.md R32). -/
def State.blinkStep (s : State) : State :=
  if s.armed then
    { s.pwmWrite s.targetChannel (blinkLevel s.cfg s.step) .blink with
      step := s.step + 1
      armed := decide (s.step ≠ 3) }
  else s

end Sys2Proof.Machine
end

