-- ==== Sys2Proof/Machine/ChannelSelector.lean ====
section
/-! DEFINITION. The Channel Selector (43_channel_selector.md): procedure ON_PRESS_EDGE (R172). -/

namespace Sys2Proof.Machine

/-- ON_PRESS_EDGE (R172): the next channel becomes active, the dial and the counter go to 0, the previous channel is
switched off and the blink sequencer is armed on it. -/
def State.onPressEdge (s : State) : State :=
  let prev := s.activeChannel
  let switched := { s with activeChannel := prev.next, rawPosition := 0, logicalValue := 0 }
  ((switched.ctrLoad 0).pwmWrite prev 0 .selector).arm prev

end Sys2Proof.Machine
end

