-- ==== Sys2Proof/Machine/Debouncer.lean ====
section
/-! DEFINITION. The Button Debouncer (42_button_debouncer.md): procedures DEBOUNCE_SAMPLE (R152) and
DEBOUNCE_COMPLETE (R154). -/

namespace Sys2Proof.Machine

/-- DEBOUNCE_SAMPLE (R152): a reading that differs from the last reported state starts the settle delay. -/
def State.debounceSample (s : State) (btnPin : Bool) : State :=
  let sampled := { s with lastObservedRaw := pressedNow btnPin }
  if pressedNow btnPin = s.isPressed then sampled
  else { sampled.requestDelay with settling := true }

/-- DEBOUNCE_COMPLETE (R154): the edge reported is the reading that started the delay; a press reaches the Channel
Selector in the same step. -/
def State.debounceComplete (s : State) : State :=
  let settled := { s with settling := false, isPressed := s.lastObservedRaw }
  if s.lastObservedRaw then
    State.onPressEdge { settled with out := { s.out with edge := .pressed } }
  else { settled with out := { s.out with edge := .released } }

end Sys2Proof.Machine
end

