-- ==== Sys2Proof/Machine/Normalizer.lean ====
section
/-! DEFINITION. The Encoder Normalizer (41_encoder_normalizer.md): procedure NORMALIZE (R138). -/

namespace Sys2Proof.Machine

/-- The condition of the boundary branch WRAP_LOW (R133): the candidate is `N` and the register is 0. -/
def State.wrapsLow (s : State) (rawCount : Nat) : Bool :=
  decide (candidate rawCount = s.cfg.n) && decide (s.logicalValue = 0)

/-- The condition of the boundary branch WRAP_HIGH (R134): the candidate is 0 and the register is `N`. -/
def State.wrapsHigh (s : State) (rawCount : Nat) : Bool :=
  decide (candidate rawCount = 0) && decide (s.logicalValue = s.cfg.n)

/-- A wrap step: the counter is re-seeded, `raw_position` takes the seed, and nothing else changes (R133, R134). -/
def State.reseed (s : State) (seed : Nat) (event : WrapEvent) : State :=
  { s.ctrLoad seed with
    rawPosition := seed
    out := { (s.ctrLoad seed).out with wrapEvent := event } }

/-- The value half of the normal branch (R135): a changed candidate is accepted, reported and commanded to the active
channel. -/
def State.acceptValue (s : State) (rawCount : Nat) : State :=
  if candidate rawCount = s.logicalValue then { s with rawPosition := rawCount }
  else
    State.pwmWrite
      { s with
        rawPosition := rawCount
        logicalValue := candidate rawCount
        out := { s.out with valueChanged := true } }
      s.activeChannel (candidate rawCount) .normalizer

/-- The direction half of the normal branch (R136). -/
def State.acceptDirection (s : State) (rawDir : Bool) : State :=
  if decodeDirection rawDir = s.direction then s
  else { s with direction := decodeDirection rawDir, out := { s.out with dirChanged := true } }

/-- NORMALIZE (R138). -/
def State.normalize (s : State) (rawCount : Nat) (rawDir : Bool) : State :=
  if s.wrapsLow rawCount then s.reseed 0 .low
  else if s.wrapsHigh rawCount then s.reseed s.cfg.maxCount .high
  else (s.acceptValue rawCount).acceptDirection rawDir

end Sys2Proof.Machine
end

