-- ==== Sys2Proof/Machine/MainLoop.lean ====
section
/-! DEFINITION. The meanings of NOP and of the main loop's operations POLL and DELAY_DONE (40_operations.md §2 to §4). -/

namespace Sys2Proof.Machine

/-- NOP: accepted always, no effect (R112). -/
def execNop (s : State) : Host.Outcome State Fault Refusal :=
  .next s.accept

/-- POLL: without effect while settling, when its operands are not looked at (R114); otherwise NORMALIZE, then
DEBOUNCE_SAMPLE (R113). An effective POLL with `raw_count > MAX_COUNT` has no meaning and is refused (R142; DEDUCED
order of the two tests, log entry 6). -/
def execPoll (rawCount : Nat) (rawDir btnPin : Bool) (s : State) : Host.Outcome State Fault Refusal :=
  if s.settling then .next s.accept
  else if rawCountInRange s.cfg rawCount then
    .next ((s.accept.normalize rawCount rawDir).debounceSample btnPin)
  else .refused .rawCountOutOfRange

/-- DELAY_DONE: DEBOUNCE_COMPLETE while settling (R115), otherwise without effect (R116). -/
def execDelayDone (s : State) : Host.Outcome State Fault Refusal :=
  if s.settling then .next s.accept.debounceComplete
  else .next s.accept

end Sys2Proof.Machine
end

