-- ==== Sys2Proof/Machine/ReservedOps.lean ====
section
/-! DEFINITION. The meanings of the reserved operation codes: accepted and without effect (40_operations.md R121). Of the
two treatments R121 admits this model takes the hardware's own, the identity (log entry 7). -/

namespace Sys2Proof.Machine

/-- The reserved code `0b100` (R121). -/
def execReservedOp4 (s : State) : Host.Outcome State Fault Refusal :=
  .next s.accept

/-- The reserved code `0b101` (R121). -/
def execReservedOp5 (s : State) : Host.Outcome State Fault Refusal :=
  .next s.accept

/-- The reserved code `0b110` (R121). -/
def execReservedOp6 (s : State) : Host.Outcome State Fault Refusal :=
  .next s.accept

/-- The reserved code `0b111` (R121). -/
def execReservedOp7 (s : State) : Host.Outcome State Fault Refusal :=
  .next s.accept

end Sys2Proof.Machine
end

