-- ==== Sys2Proof/Machine/Ticks.lean ====
section
/-! DEFINITION. The meanings of TICK, one for each `tick_id` (40_operations.md §5): the entry point of the two tick
sources. It is accepted whether or not the block is settling (R117). -/

namespace Sys2Proof.Machine

/-- TICK HEARTBEAT: toggles `hb_led` (R118). -/
def execTickHeartbeat (s : State) : Host.Outcome State Fault Refusal :=
  .next { s.accept with hbLed := !s.hbLed }

/-- TICK BLINK: BLINK_STEP (R119). -/
def execTickBlink (s : State) : Host.Outcome State Fault Refusal :=
  .next s.accept.blinkStep

/-- TICK with the reserved `tick_id` 2: no effect (R120). -/
def execTickReserved2 (s : State) : Host.Outcome State Fault Refusal :=
  .next s.accept

/-- TICK with the reserved `tick_id` 3: no effect (R120). -/
def execTickReserved3 (s : State) : Host.Outcome State Fault Refusal :=
  .next s.accept

end Sys2Proof.Machine
end

