-- ==== Sys2Proof/Machine/Dispatch.lean ====
section
/-! DEFINITION. The accepted operation's meaning, one arm per operation (30_encoding.md R83, R84). -/

namespace Sys2Proof.Machine

def exec (i : Instr) (s : State) : Host.Outcome State Fault Refusal :=
  match i with
  | .nop => Sys2Proof.Machine.execNop s
  | .poll rawCount rawDir btnPin => Sys2Proof.Machine.execPoll rawCount rawDir btnPin s
  | .delayDone => Sys2Proof.Machine.execDelayDone s
  | .tickHeartbeat => Sys2Proof.Machine.execTickHeartbeat s
  | .tickBlink => Sys2Proof.Machine.execTickBlink s
  | .tickReserved2 => Sys2Proof.Machine.execTickReserved2 s
  | .tickReserved3 => Sys2Proof.Machine.execTickReserved3 s
  | .reservedOp4 => Sys2Proof.Machine.execReservedOp4 s
  | .reservedOp5 => Sys2Proof.Machine.execReservedOp5 s
  | .reservedOp6 => Sys2Proof.Machine.execReservedOp6 s
  | .reservedOp7 => Sys2Proof.Machine.execReservedOp7 s

end Sys2Proof.Machine
end

