-- ==== Sys2Proof/Machine/Clock.lean ====
section
/-! DEFINITION. One rising clock edge (30_encoding.md R92). -/

namespace Sys2Proof.Machine

/-- What the operation word `w` does: decoding with the block's `RAW_W`, then the operation's meaning (R82, R92). -/
def State.acceptWord (s : State) (w : Nat) : Host.Outcome State Fault Refusal :=
  match decode s.cfg.rawW w with
  | .ok i => exec i s
  | .error .wordTooWide => .refused .notAnOperationWord

/-- What a rising edge with the input sample `c` does (R92): reset wins over everything
(70_reset_and_hazards.md R240), then an operation is accepted if `op_valid = 1`, otherwise the cycle is idle
(40_operations.md R122). -/
def State.clockEdge (s : State) (c : Cycle) : Host.Outcome State Fault Refusal :=
  if c.rst then .next s.resetEdge
  else if c.opValid then s.acceptWord c.word
  else .next s.idleEdge

end Sys2Proof.Machine
end

