-- ==== Sys2Proof/Machine/Step.lean ====
section
/-! DEFINITION. The step of the machine: one rising clock edge with the next input sample of the environment
(30_encoding.md R92). -/

namespace Sys2Proof.Machine

/-- One step. -/
def step (s : State) : Host.Outcome State Fault Refusal :=
  s.takeSample.2.clockEdge s.takeSample.1

/-- The state at whose next rising edge the environment presents the operation of the opcode table's word `w`
(its lowest `nbits` bits, the others 0), laid out for the block's `RAW_W`. -/
def State.withFetchWord (s : State) (nbits w : Nat) : State :=
  s.present (tableWordFor s.cfg.rawW (w % 2 ^ nbits))

end Sys2Proof.Machine
end

