-- ==== Sys2Proof/Machine/Platform.lean ====
section
/-! DEFINITION. The informative counter model of 92_eei_decisions.md D36, outside the block and used by no step: an
up/down counter over `0 .. MAX_COUNT` that wraps both ways, whose direction bit is that of the last tick and which
takes a loaded value at once (PRESUMED: general knowledge G1, log entry 15), and the operation the platform's main
loop presents next (70_reset_and_hazards.md R243). -/

namespace Sys2Proof.Machine

/-- The quadrature counter of D36. -/
structure Counter where
  value : Nat
  down : Bool
deriving DecidableEq, Repr

/-- One raw tick of the encoder. -/
inductive Turn where
  | up | down
deriving DecidableEq, Repr

/-- The counter after one raw tick (D36). -/
def Counter.turn (k : Counter) (maxCount : Nat) : Turn → Counter
  | .up => ⟨if k.value = maxCount then 0 else k.value + 1, false⟩
  | .down => ⟨if k.value = 0 then maxCount else k.value - 1, true⟩

/-- The counter after a step with the outputs `o`: a load sets the value at once and keeps the direction bit (D36). -/
def Counter.afterStep (k : Counter) (o : Out) : Counter :=
  match o.ctrLoad with
  | .none => k
  | .some v => { k with value := v }

/-- The block together with the counter it is wired to. -/
structure Bench where
  block : State
  counter : Counter
deriving DecidableEq, Repr

/-- A POLL whose operands are read from the counter (R243 (5), D36). -/
def Bench.poll (b : Bench) (btnPin : Bool) : Host.Outcome Bench Fault Refusal :=
  match exec (.poll b.counter.value b.counter.down btnPin) b.block with
  | .next t => .next ⟨t, b.counter.afterStep t.out⟩
  | .fault r => .fault r
  | .refused r => .refused r

/-- One raw tick, then one POLL with the button released: the polling rate that R246 asks for. -/
def Bench.turnAndPoll (b : Bench) (t : Turn) : Host.Outcome Bench Fault Refusal :=
  Bench.poll { b with counter := b.counter.turn b.block.cfg.maxCount t } true

/-- Any number of raw ticks with a POLL after each. -/
def Bench.runTurns : List Turn → Bench → Host.Outcome Bench Fault Refusal
  | [], b => .next b
  | t :: ts, b =>
    match b.turnAndPoll t with
    | .next b' => Bench.runTurns ts b'
    | .fault r => .fault r
    | .refused r => .refused r

/-- The next operation of the platform's main loop: POLL while the block is not busy, DELAY_DONE when the settle delay
it waits for has elapsed (R243 (5)). -/
def mainLoopOperation (s : State) (k : Counter) (btnPin : Bool) : Instr :=
  if s.busy then .delayDone else .poll k.value k.down btnPin

end Sys2Proof.Machine
end

