-- ==== Sys2Proof/Machine/Text.lean ====
section
/-! DEFINITION. The textual forms of 30_encoding.md §5: the stimulus lines with their defaults and pseudo-operations
(R89, R90), the text of an operation and the text of a step's outputs (R91). They are notation, not hardware
(92_eei_decisions.md D35); no step uses them. Reading a line's characters is left out (log entry 18). -/

namespace Sys2Proof.Machine

/-- A stimulus line (R89) or a pseudo-operation (R90). An operand that may be absent is an `Option`. -/
inductive Line where
  /-- `NOP`, `DELAY_DONE`, `TICK ..`, `RSVD op=..`: an operation written whole. -/
  | op (i : Instr)
  /-- `POLL raw=<n> dir=<d> btn=<b>`; absent, `dir` is 0 and `btn` is 1. -/
  | poll (raw : Nat) (dir btn : Option Bool)
  /-- `RESET`: one clock cycle with `rst = 1`. -/
  | reset
  /-- `PRESS raw=<n> dir=<d>`. -/
  | press (raw : Option Nat) (dir : Option Bool)
  /-- `RELEASE raw=<n> dir=<d>`. -/
  | release (raw : Option Nat) (dir : Option Bool)
  /-- `BLINK4`. -/
  | blink4
deriving DecidableEq, Repr

/-- The direction bit that decodes to a direction (R88). -/
def Direction.bit : Direction → Bool
  | .cw => false
  | .ccw => true

/-- The operations a line stands for in a state; `RESET` stands for none (R89, R90). In PRESS and RELEASE the operands
default to the registers. -/
def Line.operations (s : State) : Line → List Instr
  | .op i => [i]
  | .poll raw dir btn => [.poll raw (dir.getD false) (btn.getD true)]
  | .reset => []
  | .press raw dir => [.poll (raw.getD s.rawPosition) (dir.getD s.direction.bit) false, .delayDone]
  | .release raw dir => [.poll (raw.getD s.rawPosition) (dir.getD s.direction.bit) true, .delayDone]
  | .blink4 => [.tickBlink, .tickBlink, .tickBlink, .tickBlink]

/-- The input sample that presents an operation to a block with the parameters `c`, in its canonical word. -/
def operationSample (c : Config) (i : Instr) : Cycle := ⟨false, true, encode c.rawW i⟩

/-- The input samples of a line, one per clock edge (R89). -/
def Line.samples (s : State) (l : Line) : List Cycle :=
  match l with
  | .reset => [⟨true, false, 0⟩]
  | .op i => ((Line.op i).operations s).map (operationSample s.cfg)
  | .poll raw dir btn => ((Line.poll raw dir btn).operations s).map (operationSample s.cfg)
  | .press raw dir => ((Line.press raw dir).operations s).map (operationSample s.cfg)
  | .release raw dir => ((Line.release raw dir).operations s).map (operationSample s.cfg)
  | .blink4 => (Line.blink4.operations s).map (operationSample s.cfg)

/-- The text of a level. -/
def bitText (b : Bool) : String := if b then "1" else "0"

/-- The text of an operation, every operand written (R89). -/
def operationText : Instr → String
  | .nop => "NOP"
  | .poll rawCount rawDir btnPin =>
    "POLL raw=" ++ Nat.repr rawCount ++ " dir=" ++ bitText rawDir ++ " btn=" ++ bitText btnPin
  | .delayDone => "DELAY_DONE"
  | .tickHeartbeat => "TICK HEARTBEAT"
  | .tickBlink => "TICK BLINK"
  | .tickReserved2 => "TICK id=2"
  | .tickReserved3 => "TICK id=3"
  | .reservedOp4 => "RSVD op=4"
  | .reservedOp5 => "RSVD op=5"
  | .reservedOp6 => "RSVD op=6"
  | .reservedOp7 => "RSVD op=7"

/-- The name of a channel in output text (R91). -/
def Channel.text : Channel → String
  | .ch1 => "CH1"
  | .ch2 => "CH2"
  | .ch3 => "CH3"
  | .ch4 => "CH4"

/-- The name of a PWM source in output text (R91). -/
def PwmSrc.text : PwmSrc → String
  | .normalizer => "NORMALIZER"
  | .selector => "SELECTOR"
  | .blink => "BLINK"

/-- The events a step set, in the order of R91. -/
def Out.events (o : Out) : List String :=
  (if o.valueChanged then ["value_changed"] else [])
    ++ (if o.dirChanged then ["dir_changed"] else [])
    ++ (match o.wrapEvent with
        | .none => []
        | .low => ["wrap=LOW"]
        | .high => ["wrap=HIGH"])
    ++ (match o.edge with
        | .none => []
        | .pressed => ["edge=Pressed"]
        | .released => ["edge=Released"])
    ++ (match o.ctrLoad with
        | .none => []
        | .some v => ["ctr_load(" ++ Nat.repr v ++ ")"])
    ++ (match o.pwm with
        | .none => []
        | .some c =>
          ["pwm(" ++ c.channel.text ++ ", " ++ Nat.repr c.value ++ ", " ++ c.src.text ++ ")"])
    ++ (if o.delayReq then ["delay_req(" ++ Nat.repr Config.settleUnits ++ ")"] else [])

/-- The text of a step's outputs: its events, `-` when there is none (R91). -/
def Out.text (o : Out) : String :=
  match o.events with
  | [] => "-"
  | e :: es => String.intercalate ", " (e :: es)

end Sys2Proof.Machine
end

