-- ==== Sys2Proof/Safety.lean ====
section
/-! DEFINITION. What a safe run is, in the terms the statements use: the invariants of 95_test_vectors.md part 4 and the
runs over any interleaving of operations (60_exceptions.md R216). -/

namespace Sys2Proof.Machine

/-- The invariant of EncoderState (10_state.md R24). -/
def State.EncoderInv (s : State) : Prop :=
  s.logicalValue = s.rawPosition / Config.ticksPerDetent ∧ s.logicalValue ≤ s.cfg.n
    ∧ s.rawPosition ≤ s.cfg.maxCount

/-- While Idle, `step` is 0 (10_state.md R30). -/
def State.BlinkInv (s : State) : Prop := s.armed = false → s.step = 0

/-- The block settles exactly while the last reading differs from the reported state (95_test_vectors.md Q3). -/
def State.ButtonInv (s : State) : Prop := s.settling = true ↔ s.lastObservedRaw ≠ s.isPressed

/-- While a sequence is in flight, the active channel is the successor of its target (44_blink_sequencer.md R193), which
gives the first half of 95_test_vectors.md Q4. -/
def State.ChannelInv (s : State) : Prop := s.armed = true → s.activeChannel = s.targetChannel.next

/-- The values a PWM command may carry by its source (45_pwm_output_port.md R201, R203). -/
def PwmCommand.Legal (c : Config) (cmd : PwmCommand) : Prop :=
  match cmd.src with
  | .normalizer => cmd.value ≤ c.n
  | .selector => cmd.value = 0
  | .blink => cmd.value = c.blinkFull ∨ cmd.value = 0

/-- The outputs carry only the values the spec lists (20_memory.md R70, 45_pwm_output_port.md R203), and every level in
the channel space fits its `PWM_W` bits. -/
def State.PortInv (s : State) : Prop :=
  (∀ v, s.out.ctrLoad = some v → v = 0 ∨ v = s.cfg.maxCount)
    ∧ (∀ cmd, s.out.pwm = some cmd → cmd.Legal s.cfg)
    ∧ (∀ ch, s.levels.get ch < 2 ^ s.cfg.pwmW)

/-- The invariant of the whole machine. -/
def State.Inv (s : State) : Prop :=
  s.EncoderInv ∧ s.BlinkInv ∧ s.ButtonInv ∧ s.ChannelInv ∧ s.PortInv

/-- A run of accepted operations; it stops at the first that answers no next state. -/
def execAll : List Instr → State → Host.Outcome State Fault Refusal
  | [], s => .next s
  | i :: is, s =>
    match exec i s with
    | .next t => execAll is t
    | .fault r => .fault r
    | .refused r => .refused r

/-- The outputs of a run of accepted operations, one record per step. -/
def outputsOf : List Instr → State → List Out
  | [], _ => []
  | i :: is, s =>
    match exec i s with
    | .next t => t.out :: outputsOf is t
    | .fault _ => []
    | .refused _ => []

/-- A run of `k` clock edges; it stops at the first that answers no next state. -/
def runSteps : Nat → State → Host.Outcome State Fault Refusal
  | 0, s => .next s
  | k + 1, s =>
    match step s with
    | .next t => runSteps k t
    | .fault r => .fault r
    | .refused r => .refused r

/-- The state to which the environment presents these operations, one per clock edge, each in its canonical word. -/
def State.presentAll (s : State) (is : List Instr) : State :=
  { s with inputs := is.map (operationSample s.cfg) ++ s.inputs }

/-- Whether an edge sequence alternates (42_button_debouncer.md R156), given the last reported state of the button. -/
def AlternatesFrom (isPressed : Bool) : List Edge → Prop
  | [] => True
  | .none :: es => AlternatesFrom isPressed es
  | .pressed :: es => isPressed = false ∧ AlternatesFrom true es
  | .released :: es => isPressed = true ∧ AlternatesFrom false es

/-- The number of presses reported in an output history. -/
def pressCount (os : List Out) : Nat := os.countP (fun o => decide (o.edge = .pressed))

/-- The commands in an output history. -/
def commandsOf (os : List Out) : List PwmCommand := os.filterMap (fun o => o.pwm)

/-- The commands of the blink sequencer in an output history. -/
def blinkCommandsOf (os : List Out) : List PwmCommand :=
  (commandsOf os).filter (fun c => decide (c.src = .blink))

/-- The last commanded value of a channel after an output history, `before` where the history commands none
(45_pwm_output_port.md R205). -/
def lastCommanded (ch : Channel) (before : Nat) (os : List Out) : Nat :=
  match ((commandsOf os).filter (fun c => decide (c.channel = ch))).getLast? with
  | .none => before
  | .some c => c.value

/-- A dial with two end stops at 0 and `maxCount`, turned by one raw tick. -/
def dialTurn (maxCount : Nat) (position : Nat) : Turn → Nat
  | .up => min (position + 1) maxCount
  | .down => position - 1

end Sys2Proof.Machine
end

