-- ==== Sys2Proof/Certificates/Slice0/Obligations.lean ====
section
/-! DEFINITION. The statements for the provers. Each docstring names the rule it formalises, or the sections it rests on.
A statement quantifies over every state, hence over every value of the OPEN parameters of 00_scope.md R4. The
`[decision: ..]` marks of a rule are the spec's own (92_eei_decisions.md) and make it no less the spec's rule. -/

open Sys2Proof Sys2Proof.Machine

/-! ### Reset, clock edge, decoding -/

/-- R38: the value of each of the eleven registers after reset, for every configuration. -/
def Obligations.ResetStateRegisters : Prop :=
  ∀ c : Config,
    let s := State.resetFor c
    s.rawPosition = 0 ∧ s.logicalValue = 0 ∧ s.direction = .cw ∧ s.isPressed = false
      ∧ s.lastObservedRaw = false ∧ s.settling = false ∧ s.activeChannel = .ch1
      ∧ s.armed = false ∧ s.step = 0 ∧ s.targetChannel = .ch1 ∧ s.hbLed = false

/-- R240, R241, R242: a rising edge with `rst = 1`, whatever `op_valid` and the word are, gives every register its
reset value and every event output its idle value. The levels stay as the driver was last told (R205). -/
def Obligations.ResetEdgeResetsEveryRegister : Prop :=
  ∀ (s : State) (c : Cycle), c.rst = true →
    s.clockEdge c = .next
      { s with
        rawPosition := 0, logicalValue := 0, direction := .cw, isPressed := false,
        lastObservedRaw := false, settling := false, activeChannel := .ch1, armed := false,
        step := 0, targetChannel := .ch1, hbLed := false, out := Out.idle }

/-- R122: a clock edge with `op_valid = 0` and `rst = 0` changes no register and idles the event outputs. -/
def Obligations.IdleCycleChangesNothing : Prop :=
  ∀ (s : State) (c : Cycle), c.rst = false → c.opValid = false →
    s.clockEdge c = .next { s with out := Out.idle }

/-- A step at a state whose next input sample carries a word that decodes to `i` is `exec i` at the state with that
sample taken; a step at a sample with `rst = 1` resets; one at a sample without an operation, or at no sample at
all, is an idle cycle. The list of samples is the model's (log entry 3). -/
def Obligations.StepRunsTheDecodedOperation : Prop :=
  ∀ (s : State) (rest : List Cycle) (w : Nat) (v : Bool),
    (∀ i, s.inputs = ⟨false, true, w⟩ :: rest → decode s.cfg.rawW w = .ok i →
      step s = exec i { s with inputs := rest })
    ∧ (s.inputs = ⟨true, v, w⟩ :: rest →
      step s = .next { State.resetFor s.cfg with levels := s.levels, inputs := rest })
    ∧ (s.inputs = ⟨false, false, w⟩ :: rest →
      step s = .next { s with inputs := rest, out := Out.idle })
    ∧ (s.inputs = [] → step s = .next { s with out := Out.idle })

/-- R89, R82 to R84: words written out from the encoding tables decode to the operations they stand for. -/
def Obligations.SampleWordsDecode : Prop :=
  decode 16 0x000000 = .ok .nop
    ∧ decode 16 0x120008 = .ok (.poll 8 false true)
    ∧ decode 16 0x1100C8 = .ok (.poll 200 true false)
    ∧ decode 16 0x200000 = .ok .delayDone
    ∧ decode 16 0x300000 = .ok .tickHeartbeat
    ∧ decode 16 0x340000 = .ok .tickBlink
    ∧ decode 16 0x380000 = .ok .tickReserved2
    ∧ decode 16 0x3C0000 = .ok .tickReserved3
    ∧ decode 16 0x500000 = .ok .reservedOp5
    ∧ decode 16 0x7FFFFF = .ok .reservedOp7

/-- Decoding the canonical word of a well-formed operation gives it back, for every `RAW_W` and every operand the
encoding admits. -/
def Obligations.DecodeEncodeRoundTrip : Prop :=
  ∀ (rawW : Nat) (i : Instr), i.wellFormed rawW = true → decode rawW (encode rawW i) = .ok i

/-- R86, first sentence: every word of `RAW_W + 7` bits decodes, to a well-formed operation; a wider number does not
(log entry 9, the model's). -/
def Obligations.ExactlyTheOperationWordsDecode : Prop :=
  ∀ (rawW : Nat) (w : Nat),
    (w < 2 ^ (rawW + 7) → ∃ i, decode rawW w = .ok i ∧ i.wellFormed rawW = true)
    ∧ (2 ^ (rawW + 7) ≤ w → decode rawW w = .error .wordTooWide)

/-- R85, first sentence: two words that agree on `op`, on `tick_id` if `op` is TICK and on the three operands if `op`
is POLL, decode alike. -/
def Obligations.IgnoredFieldsDoNotMatter : Prop :=
  ∀ (rawW : Nat) (w w' : Nat),
    w / 2 ^ (rawW + 4) = w' / 2 ^ (rawW + 4) →
    (w / 2 ^ (rawW + 4) = 3 → w / 2 ^ (rawW + 2) = w' / 2 ^ (rawW + 2)) →
    (w / 2 ^ (rawW + 4) = 1 → w % 2 ^ (rawW + 2) = w' % 2 ^ (rawW + 2)) →
    decode rawW w = decode rawW w'

/-- R82: a POLL word is exactly `{op = 1, any tick_id, btn_pin, raw_dir, raw_count}`, bit for bit, whatever the operand
values that fit their ports. -/
def Obligations.PollWordFieldPositions : Prop :=
  ∀ (rawW : Nat) (w : Nat) (rawCount : Nat) (rawDir btnPin : Bool),
    decode rawW w = .ok (.poll rawCount rawDir btnPin) ↔
      rawCount < 2 ^ rawW ∧ ∃ tickId < 4,
        w = 1 * 2 ^ (rawW + 4) + tickId * 2 ^ (rawW + 2) + (if btnPin then 2 ^ (rawW + 1) else 0)
              + (if rawDir then 2 ^ rawW else 0) + rawCount

/-! ### Operations without effect -/

/-- R112: every word with `op = 0b000` is NOP, and NOP leaves the state as it was and the event outputs idle, from any
state. -/
def Obligations.NopHasNoEffect : Prop :=
  (∀ (rawW : Nat) (w : Nat), w / 2 ^ (rawW + 4) = 0 → decode rawW w = .ok .nop)
    ∧ ∀ s : State, exec .nop s = .next { s with out := Out.idle }

/-- R121: every word with a reserved `op` is accepted and has no effect, whatever its other fields hold. -/
def Obligations.ReservedCodesHaveNoEffect : Prop :=
  (∀ (rawW : Nat) (w : Nat),
      (w / 2 ^ (rawW + 4) = 4 → decode rawW w = .ok .reservedOp4)
      ∧ (w / 2 ^ (rawW + 4) = 5 → decode rawW w = .ok .reservedOp5)
      ∧ (w / 2 ^ (rawW + 4) = 6 → decode rawW w = .ok .reservedOp6)
      ∧ (w / 2 ^ (rawW + 4) = 7 → decode rawW w = .ok .reservedOp7))
    ∧ ∀ s : State,
      exec .reservedOp4 s = .next { s with out := Out.idle }
      ∧ exec .reservedOp5 s = .next { s with out := Out.idle }
      ∧ exec .reservedOp6 s = .next { s with out := Out.idle }
      ∧ exec .reservedOp7 s = .next { s with out := Out.idle }

/-- R120: a TICK word with `tick_id` 2 or 3 is accepted and has no effect. -/
def Obligations.ReservedTicksHaveNoEffect : Prop :=
  (∀ (rawW : Nat) (w : Nat),
      (w / 2 ^ (rawW + 2) = 14 → decode rawW w = .ok .tickReserved2)
      ∧ (w / 2 ^ (rawW + 2) = 15 → decode rawW w = .ok .tickReserved3))
    ∧ ∀ s : State,
      exec .tickReserved2 s = .next { s with out := Out.idle }
      ∧ exec .tickReserved3 s = .next { s with out := Out.idle }

/-- R114: a POLL while settling is accepted and has no effect, whatever its operands are. -/
def Obligations.PollWhileSettlingHasNoEffect : Prop :=
  ∀ (s : State) (rawCount : Nat) (rawDir btnPin : Bool), s.settling = true →
    exec (.poll rawCount rawDir btnPin) s = .next { s with out := Out.idle }

/-- R116: a DELAY_DONE while not settling is accepted and has no effect. -/
def Obligations.DelayDoneWhileNotSettlingHasNoEffect : Prop :=
  ∀ s : State, s.settling = false → exec .delayDone s = .next { s with out := Out.idle }

/-! ### POLL -/

/-- R131: the candidate is the floor of `raw_count / TPD`; in range it is at most `N`, it is `N` exactly at `MAX_COUNT`
and 0 exactly at 0 to 3. -/
def Obligations.CandidateIsFloorDivision : Prop :=
  ∀ (c : Config) (rawCount : Nat),
    candidate rawCount = rawCount / 4
    ∧ (rawCount ≤ 4 * c.n →
        candidate rawCount ≤ c.n ∧ (candidate rawCount = c.n ↔ rawCount = 4 * c.n)
        ∧ (candidate rawCount = 0 ↔ rawCount = 0 ∨ rawCount = 1 ∨ rawCount = 2 ∨ rawCount = 3))

/-- R133 with R152: the wrap step at the low end, the whole next state of the POLL. The button is sampled in the same
step. -/
def Obligations.PollWrapLowReseedsToZero : Prop :=
  ∀ (s : State) (rawCount : Nat) (rawDir btnPin : Bool),
    s.settling = false → rawCount ≤ s.cfg.maxCount → rawCount / 4 = s.cfg.n → s.logicalValue = 0 →
    exec (.poll rawCount rawDir btnPin) s = .next
      { s with
        rawPosition := 0
        lastObservedRaw := !btnPin
        settling := decide ((!btnPin) ≠ s.isPressed)
        out := { Out.idle with
          wrapEvent := .low, ctrLoad := some 0, delayReq := decide ((!btnPin) ≠ s.isPressed) } }

/-- R134 with R152: the wrap step at the high end, the whole next state of the POLL. -/
def Obligations.PollWrapHighReseedsToMaximum : Prop :=
  ∀ (s : State) (rawCount : Nat) (rawDir btnPin : Bool),
    s.settling = false → rawCount ≤ s.cfg.maxCount → rawCount / 4 = 0 → s.logicalValue = s.cfg.n →
    exec (.poll rawCount rawDir btnPin) s = .next
      { s with
        rawPosition := 4 * s.cfg.n
        lastObservedRaw := !btnPin
        settling := decide ((!btnPin) ≠ s.isPressed)
        out := { Out.idle with
          wrapEvent := .high, ctrLoad := some (4 * s.cfg.n)
          delayReq := decide ((!btnPin) ≠ s.isPressed) } }

/-- R135, R136 with R152: the normal branch, the whole next state of the POLL, where neither boundary condition
holds. -/
def Obligations.PollNormalBranchAcceptsTheCandidate : Prop :=
  ∀ (s : State) (rawCount : Nat) (rawDir btnPin : Bool),
    s.settling = false → rawCount ≤ s.cfg.maxCount →
    ¬ (rawCount / 4 = s.cfg.n ∧ s.logicalValue = 0) →
    ¬ (rawCount / 4 = 0 ∧ s.logicalValue = s.cfg.n) →
    exec (.poll rawCount rawDir btnPin) s = .next
      { s with
        rawPosition := rawCount
        logicalValue := rawCount / 4
        direction := if rawDir then .ccw else .cw
        lastObservedRaw := !btnPin
        settling := decide ((!btnPin) ≠ s.isPressed)
        out :=
          { valueChanged := decide (rawCount / 4 ≠ s.logicalValue)
            dirChanged := decide ((if rawDir then Direction.ccw else Direction.cw) ≠ s.direction)
            wrapEvent := .none
            edge := .none
            ctrLoad := none
            pwm := if rawCount / 4 = s.logicalValue then none
              else some ⟨s.activeChannel, rawCount / 4, .normalizer⟩
            delayReq := decide ((!btnPin) ≠ s.isPressed) }
        levels := if rawCount / 4 = s.logicalValue then s.levels
          else s.levels.set s.activeChannel (rawCount / 4) }

/-- R152, R155, R151: an effective POLL completes; it records the reading of the pin and starts the settle delay exactly
when the reading differs from the reported state. It sets no edge and leaves `is_pressed`, the channel, the blink
registers and `hb_led` as they were (R113). -/
def Obligations.PollSamplesTheButton : Prop :=
  ∀ (s : State) (rawCount : Nat) (rawDir btnPin : Bool),
    s.settling = false → rawCount ≤ s.cfg.maxCount →
    ∃ t, exec (.poll rawCount rawDir btnPin) s = .next t
      ∧ t.lastObservedRaw = (!btnPin)
      ∧ (t.settling = true ↔ (!btnPin) ≠ s.isPressed)
      ∧ (t.out.delayReq = true ↔ (!btnPin) ≠ s.isPressed)
      ∧ t.ports.delayUnits = 2 ∧ t.out.edge = .none
      ∧ t.isPressed = s.isPressed ∧ t.activeChannel = s.activeChannel ∧ t.armed = s.armed
      ∧ t.step = s.step ∧ t.targetChannel = s.targetChannel ∧ t.hbLed = s.hbLed

/-- R142: an effective POLL with `raw_count > MAX_COUNT` is refused, and given no value. -/
def Obligations.PollOutOfRangeIsRefused : Prop :=
  ∀ (s : State) (rawCount : Nat) (rawDir btnPin : Bool),
    s.settling = false → s.cfg.maxCount < rawCount →
    exec (.poll rawCount rawDir btnPin) s = .refused .rawCountOutOfRange

/-- R113: the order of NORMALIZE and DEBOUNCE_SAMPLE inside a POLL cannot be observed. -/
def Obligations.PollProceduresCommute : Prop :=
  ∀ (s : State) (rawCount : Nat) (rawDir btnPin : Bool),
    (s.normalize rawCount rawDir).debounceSample btnPin
      = (s.debounceSample btnPin).normalize rawCount rawDir

/-! ### DELAY_DONE -/

/-- R171: the successor of each channel, which on the codes is a 2-bit increment. -/
def Obligations.ChannelCycleIsIncrementModFour : Prop :=
  Channel.ch1.next = .ch2 ∧ Channel.ch2.next = .ch3 ∧ Channel.ch3.next = .ch4
    ∧ Channel.ch4.next = .ch1 ∧ ∀ c : Channel, c.next.code = (c.code + 1) % 4

/-- R154, R172, R186: the DELAY_DONE that completes a press and the one that completes a release, the whole next state of
each, in every state of the blink sequencer. The reading that started the delay decides which. -/
def Obligations.DelayDoneReportsTheEdge : Prop :=
  ∀ s : State, s.settling = true →
    (s.lastObservedRaw = true →
      exec .delayDone s = .next
        { s with
          settling := false
          isPressed := true
          activeChannel := s.activeChannel.next
          rawPosition := 0
          logicalValue := 0
          armed := true
          step := 0
          targetChannel := s.activeChannel
          out := { Out.idle with
            edge := .pressed, ctrLoad := some 0, pwm := some ⟨s.activeChannel, 0, .selector⟩ }
          levels := s.levels.set s.activeChannel 0 })
    ∧ (s.lastObservedRaw = false →
      exec .delayDone s = .next
        { s with
          settling := false
          isPressed := false
          out := { Out.idle with edge := .released } })

/-! ### TICK -/

/-- R118: every word with `op` TICK and `tick_id` HEARTBEAT toggles `hb_led`, writes nothing else and sets no event
output. -/
def Obligations.HeartbeatTogglesTheIndicator : Prop :=
  (∀ (rawW : Nat) (w : Nat), w / 2 ^ (rawW + 2) = 12 → decode rawW w = .ok .tickHeartbeat)
    ∧ ∀ s : State, exec .tickHeartbeat s = .next { s with hbLed := !s.hbLed, out := Out.idle }

/-- R119, R187, R188: every word with `op` TICK and `tick_id` BLINK plays one step of an armed sequence, the whole next
state, and has no effect while Idle, also in the unreachable states of R32. -/
def Obligations.BlinkTickPlaysOneStep : Prop :=
  (∀ (rawW : Nat) (w : Nat), w / 2 ^ (rawW + 2) = 13 → decode rawW w = .ok .tickBlink)
    ∧ ∀ s : State,
      (s.armed = true →
        exec .tickBlink s = .next
          { s with
            step := s.step + 1
            armed := decide (s.step ≠ 3)
            out := { Out.idle with
              pwm := some ⟨s.targetChannel,
                if s.step = 0 ∨ s.step = 2 then s.cfg.blinkFull else 0, .blink⟩ }
            levels := s.levels.set s.targetChannel
              (if s.step = 0 ∨ s.step = 2 then s.cfg.blinkFull else 0) })
      ∧ (s.armed = false → exec .tickBlink s = .next { s with out := Out.idle })

/-- A command to one channel sets the last commanded value of that channel and of no other (R205's record). -/
def Obligations.LevelsReadAfterWrite : Prop :=
  ∀ (l : Levels) (ch ch' : Channel) (v : Nat),
    (l.set ch v).get ch' = if ch' = ch then v else l.get ch'

/-! ### Frames and whole-machine rules over all operations -/

/-- No operation is faulted, and every operation has a next state but one: an effective POLL with `raw_count >
MAX_COUNT`, which is refused (R210, R142). -/
def Obligations.EveryOperationCompletesOrIsOutOfRange : Prop :=
  ∀ (i : Instr) (s : State),
    (∃ t, exec i s = .next t)
    ∨ ∃ rawCount rawDir btnPin, i = .poll rawCount rawDir btnPin ∧ s.settling = false
        ∧ s.cfg.maxCount < rawCount ∧ exec i s = .refused .rawCountOutOfRange

/-- The "written by" column of R20: an operation that changes a register is one of the register's writers. -/
def Obligations.RegistersChangeOnlyByTheirWriters : Prop :=
  ∀ (i : Instr) (s t : State), exec i s = .next t →
    let isPoll := ∃ rawCount rawDir btnPin, i = .poll rawCount rawDir btnPin
    (t.rawPosition ≠ s.rawPosition → isPoll ∨ i = .delayDone)
    ∧ (t.logicalValue ≠ s.logicalValue → isPoll ∨ i = .delayDone)
    ∧ (t.direction ≠ s.direction → isPoll)
    ∧ (t.isPressed ≠ s.isPressed → i = .delayDone)
    ∧ (t.lastObservedRaw ≠ s.lastObservedRaw → isPoll)
    ∧ (t.settling ≠ s.settling → isPoll ∨ i = .delayDone)
    ∧ (t.activeChannel ≠ s.activeChannel → i = .delayDone)
    ∧ (t.armed ≠ s.armed → i = .delayDone ∨ i = .tickBlink)
    ∧ (t.step ≠ s.step → i = .delayDone ∨ i = .tickBlink)
    ∧ (t.targetChannel ≠ s.targetChannel → i = .delayDone)
    ∧ (t.hbLed ≠ s.hbLed → i = .tickHeartbeat)

/-- An accepted operation changes neither the parameters nor the environment's samples, and a channel's last commanded
value changes only by the step's own PWM command to it. -/
def Obligations.LevelsChangeOnlyByTheCommand : Prop :=
  ∀ (i : Instr) (s t : State), exec i s = .next t →
    t.cfg = s.cfg ∧ t.inputs = s.inputs
    ∧ ∀ ch, t.levels.get ch = match t.out.pwm with
        | none => s.levels.get ch
        | some cmd => if ch = cmd.channel then cmd.value else s.levels.get ch

/-- R28, R176: the active channel changes only in the step that reports a PressedEdge, and then by exactly one place. -/
def Obligations.ChannelAdvancesExactlyOnPress : Prop :=
  ∀ (i : Instr) (s t : State), exec i s = .next t →
    (t.out.edge = .pressed ∧ t.activeChannel = s.activeChannel.next)
    ∨ (t.out.edge ≠ .pressed ∧ t.activeChannel = s.activeChannel)

/-- Derived property Q6 (95_test_vectors.md part 4), from the wrap branches: what a wrap step does and leaves alone. -/
def Obligations.WrapStepSuppressesChangeEvents : Prop :=
  ∀ (i : Instr) (s t : State), exec i s = .next t → t.out.wrapEvent ≠ .none →
    t.out.valueChanged = false ∧ t.out.dirChanged = false ∧ t.out.pwm = none
    ∧ (t.out.ctrLoad = some 0 ∨ t.out.ctrLoad = some (4 * s.cfg.n))
    ∧ t.logicalValue = s.logicalValue ∧ t.direction = s.direction

/-- Derived property Q7 (95_test_vectors.md part 4): the value-changed event and the normalizer's command are one. -/
def Obligations.ValueChangedIffNormalizerCommand : Prop :=
  ∀ (i : Instr) (s t : State), exec i s = .next t →
    (t.out.valueChanged = true ↔ ∃ ch v, t.out.pwm = some ⟨ch, v, .normalizer⟩)
    ∧ ∀ ch v, t.out.pwm = some ⟨ch, v, .normalizer⟩ →
        ch = s.activeChannel ∧ v = t.logicalValue ∧ t.logicalValue ≠ s.logicalValue

/-- Derived property Q8 (95_test_vectors.md part 4): a PressedEdge, the selector's command and the channel switch are
one. -/
def Obligations.PressIffSelectorCommand : Prop :=
  ∀ (i : Instr) (s t : State), exec i s = .next t →
    (t.out.edge = .pressed ↔
      t.out.pwm = some ⟨s.activeChannel, 0, .selector⟩ ∧ t.out.ctrLoad = some 0)
    ∧ (t.out.edge = .pressed →
        t.activeChannel = s.activeChannel.next ∧ t.armed = true ∧ t.step = 0
        ∧ t.targetChannel = s.activeChannel)

/-- `raw_position`, `hb_led`, the outputs of the step before and the PWM levels are read by no operation (R21, R35,
R206): two states that differ in them alone give the same outputs and the same other registers. -/
def Obligations.UnreadStateDoesNotInterfere : Prop :=
  ∀ (i : Instr) (s t : State) (rawPosition : Nat) (hbLed : Bool) (out : Out) (levels : Levels),
    exec i s = .next t →
    ∃ t', exec i { s with rawPosition := rawPosition, hbLed := hbLed, out := out, levels := levels }
        = .next t'
      ∧ { t' with rawPosition := t.rawPosition, hbLed := t.hbLed, levels := t.levels } = t

/-- A heartbeat tick and any other operation may be presented in either order: the registers and the levels end the
same (R216 leaves the order open). -/
def Obligations.HeartbeatCommutesWithEveryOperation : Prop :=
  ∀ (i : Instr) (s t : State), execAll [.tickHeartbeat, i] s = .next t →
    ∃ t', execAll [i, .tickHeartbeat] s = .next t' ∧ { t' with out := t.out } = t

/-- A blink tick and a POLL may be presented in either order: the registers and the levels end the same, because they
never command the same channel (R193, whose invariant is the premise). -/
def Obligations.BlinkTickCommutesWithPoll : Prop :=
  ∀ (s t : State) (rawCount : Nat) (rawDir btnPin : Bool), s.ChannelInv →
    execAll [.tickBlink, .poll rawCount rawDir btnPin] s = .next t →
    ∃ t', execAll [.poll rawCount rawDir btnPin, .tickBlink] s = .next t'
      ∧ { t' with out := t.out } = t

/-! ### Invariants -/

/-- R24: the invariant of EncoderState holds after reset and after every step. A POLL out of range has no next state, so
every step that has one carried `raw_count <= MAX_COUNT`. -/
def Obligations.EncoderInvariantKept : Prop :=
  (∀ c : Config, (State.resetFor c).EncoderInv)
    ∧ ∀ s t : State, s.EncoderInv → step s = .next t → t.EncoderInv

/-- The invariant of the whole machine holds at reset, in every configuration. -/
def Obligations.ResetSatisfiesTheInvariant : Prop :=
  ∀ c : Config, (State.resetFor c).Inv

/-- Every step keeps the invariant of the whole machine: an operation, an idle cycle or a reset, at every state that
satisfies it. Derived properties Q1 to Q3, the first half of Q4 (an armed sequence) and Q14 of 95_test_vectors.md part 4.
The second half of Q4 is TargetTrailsTheActiveChannel. -/
def Obligations.EveryStepKeepsTheInvariant : Prop :=
  ∀ s t : State, s.Inv → step s = .next t → t.Inv

/-- Under the invariant of EncoderState the registers fit the widths R4 gives them. -/
def Obligations.RegistersFitTheirWidths : Prop :=
  ∀ s : State, s.EncoderInv → s.logicalValue < 2 ^ s.cfg.lvW ∧ s.rawPosition < 2 ^ s.cfg.rawW
    ∧ s.logicalValue < 2 ^ s.cfg.pwmW

/-- R87: no output port ever shows a code the tables leave out, `pwm_src` is NONE exactly when there is no command, and
the payloads are there exactly with their strobes (R34). -/
def Obligations.OutputPortsShowOnlyAssignedCodes : Prop :=
  ∀ s : State,
    s.ports.wrapEvent ≤ 2 ∧ s.ports.edge ≤ 2 ∧ s.ports.pwmSrc ≤ 3
    ∧ (s.ports.pwmSrc = 0 ↔ s.ports.pwmValid = 0)
    ∧ (s.ports.pwmValid = 1 ↔ ∃ cmd, s.out.pwm = some cmd
        ∧ s.ports.pwmChannel = some cmd.channel.code ∧ s.ports.pwmValue = some cmd.value)
    ∧ (s.ports.pwmValid = 0 ↔ s.ports.pwmChannel = none ∧ s.ports.pwmValue = none)
    ∧ (s.ports.ctrLoad = 0 ↔ s.ports.ctrLoadVal = none)
    ∧ s.ports.delayUnits = 2

/-- What each status output shows: the register of its name with the codes of R87, and `busy` shows `settling`
(30_encoding.md section 1, 10_state.md section 6). -/
def Obligations.StatusOutputsShowTheRegisters : Prop :=
  ∀ s : State,
    s.ports.busy = (if s.settling = true then 1 else 0)
    ∧ s.ports.rawPosition = s.rawPosition
    ∧ s.ports.logicalValue = s.logicalValue
    ∧ s.ports.direction = (if s.direction = .cw then 0 else 1)
    ∧ s.ports.isPressed = (if s.isPressed = true then 1 else 0)
    ∧ s.ports.activeChannel = (if s.activeChannel = .ch1 then 0 else if s.activeChannel = .ch2 then 1
        else if s.activeChannel = .ch3 then 2 else 3)
    ∧ s.ports.blinkArmed = (if s.armed = true then 1 else 0)
    ∧ s.ports.blinkStep = s.step.val
    ∧ s.ports.blinkTarget = (if s.targetChannel = .ch1 then 0 else if s.targetChannel = .ch2 then 1
        else if s.targetChannel = .ch3 then 2 else 3)
    ∧ s.ports.hbLed = (if s.hbLed = true then 1 else 0)

/-- What each event and payload output shows of the latest step, with the codes of R87 (30_encoding.md sections 1 and 3).
OutputPortsShowOnlyAssignedCodes says where a payload is absent. -/
def Obligations.EventOutputsShowTheStep : Prop :=
  ∀ s : State,
    s.ports.valueChanged = (if s.out.valueChanged = true then 1 else 0)
    ∧ s.ports.dirChanged = (if s.out.dirChanged = true then 1 else 0)
    ∧ s.ports.delayReq = (if s.out.delayReq = true then 1 else 0)
    ∧ s.ports.wrapEvent = (if s.out.wrapEvent = .none then 0 else if s.out.wrapEvent = .low then 1 else 2)
    ∧ s.ports.edge = (if s.out.edge = .none then 0 else if s.out.edge = .pressed then 1 else 2)
    ∧ s.ports.ctrLoad = (if s.out.ctrLoad = none then 0 else 1)
    ∧ (∀ v, s.out.ctrLoad = some v → s.ports.ctrLoadVal = some v)
    ∧ s.ports.pwmValid = (if s.out.pwm = none then 0 else 1)
    ∧ (s.out.pwm = none → s.ports.pwmSrc = 0)
    ∧ (∀ ch v src, s.out.pwm = some ⟨ch, v, src⟩ →
        s.ports.pwmChannel = some (if ch = .ch1 then 0 else if ch = .ch2 then 1 else if ch = .ch3 then 2 else 3)
        ∧ s.ports.pwmValue = some v
        ∧ s.ports.pwmSrc = (if src = .normalizer then 1 else if src = .selector then 2 else 3))

/-! ### Runs over any interleaving of operations -/

/-- Presenting operations one per clock edge runs them one after the other: that many steps of the machine end as the
run of the operations does, with the samples consumed. The list of samples is the model's (log entry 3). -/
def Obligations.PresentedOperationsRunInOrder : Prop :=
  ∀ (is : List Instr) (s t : State),
    (∀ i ∈ is, i.wellFormed s.cfg.rawW = true) → execAll is s = .next t →
    runSteps is.length (s.presentAll is) = .next t

/-- Edges alternate along any run without a reset, starting from what the block last reported (derived property Q9 of
95_test_vectors.md part 4). -/
def Obligations.EdgesAlternateAlongEveryRun : Prop :=
  ∀ (is : List Instr) (s : State), s.ButtonInv →
    AlternatesFrom s.isPressed ((outputsOf is s).map (fun o => o.edge))

/-- Along any run the active channel advances once per reported press, so four presses bring it back (derived property
Q11 of 95_test_vectors.md part 4). -/
def Obligations.ActiveChannelCountsPresses : Prop :=
  ∀ (is : List Instr) (s t : State), execAll is s = .next t →
    t.activeChannel = (Channel.next^[pressCount (outputsOf is s)]) s.activeChannel
    ∧ (pressCount (outputsOf is s) = 4 → t.activeChannel = s.activeChannel)

/-- After the first reported press the active channel is the successor of the blink target at every moment, also while the
sequencer is Idle: a run that reports a press leads there, and a run that starts there stays there (second half of derived
property Q4, 95_test_vectors.md part 4). -/
def Obligations.TargetTrailsTheActiveChannel : Prop :=
  ∀ (is : List Instr) (s t : State), execAll is s = .next t →
    s.activeChannel = s.targetChannel.next ∨ 0 < pressCount (outputsOf is s) →
    t.activeChannel = t.targetChannel.next

/-- Along any run `hb_led` holds the parity of the heartbeat ticks (derived property Q13 of 95_test_vectors.md part 4). -/
def Obligations.HeartbeatParity : Prop :=
  ∀ (is : List Instr) (s t : State), execAll is s = .next t →
    t.hbLed = (s.hbLed ^^ decide (is.count .tickHeartbeat % 2 = 1))

/-- From Step0, along any run that reports no further press (R190: a press would restart the sequence), the blink commands are on, off, on, off on the target, as many as
there are blink ticks and at most four, and after four the sequencer is Idle (derived property Q10 of
95_test_vectors.md part 4). -/
def Obligations.BlinkSequencePlaysOnOffOnOff : Prop :=
  ∀ (is : List Instr) (s t : State), s.armed = true → s.step = 0 →
    execAll is s = .next t → pressCount (outputsOf is s) = 0 →
    blinkCommandsOf (outputsOf is s)
      = [⟨s.targetChannel, s.cfg.blinkFull, .blink⟩, ⟨s.targetChannel, 0, .blink⟩,
         ⟨s.targetChannel, s.cfg.blinkFull, .blink⟩, ⟨s.targetChannel, 0, .blink⟩].take
           (is.count .tickBlink)
    ∧ (t.armed = false ↔ 4 ≤ is.count .tickBlink)

/-- R205: along any run the level of a channel is the value of the most recent command to it, or what it was before if
there has been none. -/
def Obligations.LevelsAreTheLastCommands : Prop :=
  ∀ (is : List Instr) (s t : State) (ch : Channel), execAll is s = .next t →
    t.levels.get ch = lastCommanded ch (s.levels.get ch) (outputsOf is s)

/-- Turned one raw tick at a time with a POLL after each, the block and the counter model of D36 behave as a dial with two
end stops (derived: 41_encoder_normalizer.md section 4, on the dial that sticks at both ends; the counter is the model's
PRESUMED one, log entry 15). -/
def Obligations.DialSticksAtBothEnds : Prop :=
  ∀ (ts : List Turn) (b : Bench),
    b.block.EncoderInv → b.counter.value = b.block.rawPosition →
    b.block.settling = false → b.block.isPressed = false →
    ∃ b', Bench.runTurns ts b = .next b'
      ∧ b'.block.rawPosition = ts.foldl (dialTurn b.block.cfg.maxCount) b.block.rawPosition
      ∧ b'.block.logicalValue = b'.block.rawPosition / 4
      ∧ b'.counter.value = b'.block.rawPosition

/-! ### Hazards and corner cases (70_reset_and_hazards.md) -/

/-- A stale counter value after a wrap step gives the same wrap step again: the registers stay and the counter is loaded
again (70_reset_and_hazards.md section 3, counter load before next sample). -/
def Obligations.StaleCountAfterWrapIsHarmless : Prop :=
  ∀ (s t : State) (rawCount rawCount' : Nat) (rawDir rawDir' : Bool),
    s.settling = false → s.isPressed = false →
    exec (.poll rawCount rawDir true) s = .next t → t.out.wrapEvent ≠ .none →
    rawCount' ≤ s.cfg.maxCount → rawCount' / 4 = rawCount / 4 →
    exec (.poll rawCount' rawDir' true) t = .next t

/-- A wrapped counter sampled one tick too late at the low end is accepted as a jump of the dial from 0 to `N - 1`
(70_reset_and_hazards.md section 3, polling rate against counter speed). -/
def Obligations.MissedWrapJumpsTheDial : Prop :=
  ∀ (s : State) (rawDir btnPin : Bool), s.settling = false → s.logicalValue = 0 →
    ∃ t, exec (.poll (s.cfg.maxCount - 1) rawDir btnPin) s = .next t
      ∧ t.logicalValue = s.cfg.n - 1 ∧ t.out.valueChanged = true ∧ t.out.wrapEvent = .none
      ∧ t.out.pwm = some ⟨s.activeChannel, s.cfg.n - 1, .normalizer⟩

/-- R190: a press while a sequence is in flight restarts it at Step0 on the new target and sends no command to the old
one, which keeps the level it was left at. -/
def Obligations.RearmAbandonsTheOldTarget : Prop :=
  ∀ s : State, s.settling = true → s.lastObservedRaw = true → s.armed = true → s.ChannelInv →
    ∃ t, exec .delayDone s = .next t
      ∧ t.armed = true ∧ t.step = 0 ∧ t.targetChannel = s.activeChannel
      ∧ (∀ v src, t.out.pwm ≠ some ⟨s.targetChannel, v, src⟩)
      ∧ t.levels.get s.targetChannel = s.levels.get s.targetChannel

/-- After a press the new channel keeps its level along any run that changes no value and reports no further press, and
the first POLL whose candidate is accepted as a change then sets it, with the button in either position
(70_reset_and_hazards.md section 3, the new channel keeps its old level). A POLL is effective only while not settling, and
the premise on `raw_count` leaves out candidate 0 (no change) and candidate `N` (a wrap step). -/
def Obligations.NewChannelJumpsAtTheFirstChange : Prop :=
  ∀ s : State, s.settling = true → s.lastObservedRaw = true →
    ∃ t, exec .delayDone s = .next t ∧
      ∀ (is : List Instr) (u : State), execAll is t = .next u →
        (∀ o ∈ outputsOf is t, o.valueChanged = false) → pressCount (outputsOf is t) = 0 →
        u.levels.get s.activeChannel.next = s.levels.get s.activeChannel.next
        ∧ ∀ (rawCount : Nat) (rawDir btnPin : Bool),
            u.settling = false → 4 ≤ rawCount → rawCount < s.cfg.maxCount →
            ∃ v, exec (.poll rawCount rawDir btnPin) u = .next v
              ∧ v.out.valueChanged = true
              ∧ v.out.pwm = some ⟨s.activeChannel.next, rawCount / 4, .normalizer⟩
              ∧ v.levels.get s.activeChannel.next = rawCount / 4

/-- The pseudo-operation PRESS with its default operands, on a released button and a coherent encoder, changes nothing in
the encoder at its POLL and reports the press at its DELAY_DONE (30_encoding.md section 5, pseudo-operations). -/
def Obligations.PressPseudoOperationReportsAPress : Prop :=
  ∀ s : State, s.EncoderInv → s.settling = false → s.isPressed = false →
    ∃ t u, (Line.press none none).operations s
        = [.poll s.rawPosition s.direction.bit false, .delayDone]
      ∧ exec (.poll s.rawPosition s.direction.bit false) s = .next t
      ∧ t = { s with
          lastObservedRaw := true, settling := true, out := { Out.idle with delayReq := true } }
      ∧ exec .delayDone t = .next u ∧ u.out.edge = .pressed
      ∧ u.activeChannel = s.activeChannel.next
end

