-- ==== Sys2Proof/Laws/State.lean ====
section
/-! SUPPORT. For each update of the state, the value of each field after it, true by rfl: no later proof unfolds a record
update. -/

namespace Sys2Proof.Machine

/-! ### `State.accept` -/

@[simp] theorem State.accept_cfg (s : State) :
    s.accept.cfg = s.cfg := rfl

@[simp] theorem State.accept_rawPosition (s : State) :
    s.accept.rawPosition = s.rawPosition := rfl

@[simp] theorem State.accept_logicalValue (s : State) :
    s.accept.logicalValue = s.logicalValue := rfl

@[simp] theorem State.accept_direction (s : State) :
    s.accept.direction = s.direction := rfl

@[simp] theorem State.accept_isPressed (s : State) :
    s.accept.isPressed = s.isPressed := rfl

@[simp] theorem State.accept_lastObservedRaw (s : State) :
    s.accept.lastObservedRaw = s.lastObservedRaw := rfl

@[simp] theorem State.accept_settling (s : State) :
    s.accept.settling = s.settling := rfl

@[simp] theorem State.accept_activeChannel (s : State) :
    s.accept.activeChannel = s.activeChannel := rfl

@[simp] theorem State.accept_armed (s : State) :
    s.accept.armed = s.armed := rfl

@[simp] theorem State.accept_step (s : State) :
    s.accept.step = s.step := rfl

@[simp] theorem State.accept_targetChannel (s : State) :
    s.accept.targetChannel = s.targetChannel := rfl

@[simp] theorem State.accept_hbLed (s : State) :
    s.accept.hbLed = s.hbLed := rfl

@[simp] theorem State.accept_out (s : State) :
    s.accept.out = Out.idle := rfl

@[simp] theorem State.accept_levels (s : State) :
    s.accept.levels = s.levels := rfl

@[simp] theorem State.accept_inputs (s : State) :
    s.accept.inputs = s.inputs := rfl

/-! ### `State.idleEdge` -/

@[simp] theorem State.idleEdge_cfg (s : State) :
    s.idleEdge.cfg = s.cfg := rfl

@[simp] theorem State.idleEdge_rawPosition (s : State) :
    s.idleEdge.rawPosition = s.rawPosition := rfl

@[simp] theorem State.idleEdge_logicalValue (s : State) :
    s.idleEdge.logicalValue = s.logicalValue := rfl

@[simp] theorem State.idleEdge_direction (s : State) :
    s.idleEdge.direction = s.direction := rfl

@[simp] theorem State.idleEdge_isPressed (s : State) :
    s.idleEdge.isPressed = s.isPressed := rfl

@[simp] theorem State.idleEdge_lastObservedRaw (s : State) :
    s.idleEdge.lastObservedRaw = s.lastObservedRaw := rfl

@[simp] theorem State.idleEdge_settling (s : State) :
    s.idleEdge.settling = s.settling := rfl

@[simp] theorem State.idleEdge_activeChannel (s : State) :
    s.idleEdge.activeChannel = s.activeChannel := rfl

@[simp] theorem State.idleEdge_armed (s : State) :
    s.idleEdge.armed = s.armed := rfl

@[simp] theorem State.idleEdge_step (s : State) :
    s.idleEdge.step = s.step := rfl

@[simp] theorem State.idleEdge_targetChannel (s : State) :
    s.idleEdge.targetChannel = s.targetChannel := rfl

@[simp] theorem State.idleEdge_hbLed (s : State) :
    s.idleEdge.hbLed = s.hbLed := rfl

@[simp] theorem State.idleEdge_out (s : State) :
    s.idleEdge.out = Out.idle := rfl

@[simp] theorem State.idleEdge_levels (s : State) :
    s.idleEdge.levels = s.levels := rfl

@[simp] theorem State.idleEdge_inputs (s : State) :
    s.idleEdge.inputs = s.inputs := rfl

/-! ### `State.pwmWrite` -/

@[simp] theorem State.pwmWrite_cfg (s : State) (ch : Channel) (v : Nat) (src : PwmSrc) :
    (s.pwmWrite ch v src).cfg = s.cfg := rfl

@[simp] theorem State.pwmWrite_rawPosition (s : State) (ch : Channel) (v : Nat) (src : PwmSrc) :
    (s.pwmWrite ch v src).rawPosition = s.rawPosition := rfl

@[simp] theorem State.pwmWrite_logicalValue (s : State) (ch : Channel) (v : Nat) (src : PwmSrc) :
    (s.pwmWrite ch v src).logicalValue = s.logicalValue := rfl

@[simp] theorem State.pwmWrite_direction (s : State) (ch : Channel) (v : Nat) (src : PwmSrc) :
    (s.pwmWrite ch v src).direction = s.direction := rfl

@[simp] theorem State.pwmWrite_isPressed (s : State) (ch : Channel) (v : Nat) (src : PwmSrc) :
    (s.pwmWrite ch v src).isPressed = s.isPressed := rfl

@[simp] theorem State.pwmWrite_lastObservedRaw (s : State) (ch : Channel) (v : Nat) (src : PwmSrc) :
    (s.pwmWrite ch v src).lastObservedRaw = s.lastObservedRaw := rfl

@[simp] theorem State.pwmWrite_settling (s : State) (ch : Channel) (v : Nat) (src : PwmSrc) :
    (s.pwmWrite ch v src).settling = s.settling := rfl

@[simp] theorem State.pwmWrite_activeChannel (s : State) (ch : Channel) (v : Nat) (src : PwmSrc) :
    (s.pwmWrite ch v src).activeChannel = s.activeChannel := rfl

@[simp] theorem State.pwmWrite_armed (s : State) (ch : Channel) (v : Nat) (src : PwmSrc) :
    (s.pwmWrite ch v src).armed = s.armed := rfl

@[simp] theorem State.pwmWrite_step (s : State) (ch : Channel) (v : Nat) (src : PwmSrc) :
    (s.pwmWrite ch v src).step = s.step := rfl

@[simp] theorem State.pwmWrite_targetChannel (s : State) (ch : Channel) (v : Nat) (src : PwmSrc) :
    (s.pwmWrite ch v src).targetChannel = s.targetChannel := rfl

@[simp] theorem State.pwmWrite_hbLed (s : State) (ch : Channel) (v : Nat) (src : PwmSrc) :
    (s.pwmWrite ch v src).hbLed = s.hbLed := rfl

@[simp] theorem State.pwmWrite_out (s : State) (ch : Channel) (v : Nat) (src : PwmSrc) :
    (s.pwmWrite ch v src).out = { s.out with pwm := some ⟨ch, v, src⟩ } := rfl

@[simp] theorem State.pwmWrite_levels (s : State) (ch : Channel) (v : Nat) (src : PwmSrc) :
    (s.pwmWrite ch v src).levels = s.levels.set ch v := rfl

@[simp] theorem State.pwmWrite_inputs (s : State) (ch : Channel) (v : Nat) (src : PwmSrc) :
    (s.pwmWrite ch v src).inputs = s.inputs := rfl

/-! ### `State.ctrLoad` -/

@[simp] theorem State.ctrLoad_cfg (s : State) (v : Nat) :
    (s.ctrLoad v).cfg = s.cfg := rfl

@[simp] theorem State.ctrLoad_rawPosition (s : State) (v : Nat) :
    (s.ctrLoad v).rawPosition = s.rawPosition := rfl

@[simp] theorem State.ctrLoad_logicalValue (s : State) (v : Nat) :
    (s.ctrLoad v).logicalValue = s.logicalValue := rfl

@[simp] theorem State.ctrLoad_direction (s : State) (v : Nat) :
    (s.ctrLoad v).direction = s.direction := rfl

@[simp] theorem State.ctrLoad_isPressed (s : State) (v : Nat) :
    (s.ctrLoad v).isPressed = s.isPressed := rfl

@[simp] theorem State.ctrLoad_lastObservedRaw (s : State) (v : Nat) :
    (s.ctrLoad v).lastObservedRaw = s.lastObservedRaw := rfl

@[simp] theorem State.ctrLoad_settling (s : State) (v : Nat) :
    (s.ctrLoad v).settling = s.settling := rfl

@[simp] theorem State.ctrLoad_activeChannel (s : State) (v : Nat) :
    (s.ctrLoad v).activeChannel = s.activeChannel := rfl

@[simp] theorem State.ctrLoad_armed (s : State) (v : Nat) :
    (s.ctrLoad v).armed = s.armed := rfl

@[simp] theorem State.ctrLoad_step (s : State) (v : Nat) :
    (s.ctrLoad v).step = s.step := rfl

@[simp] theorem State.ctrLoad_targetChannel (s : State) (v : Nat) :
    (s.ctrLoad v).targetChannel = s.targetChannel := rfl

@[simp] theorem State.ctrLoad_hbLed (s : State) (v : Nat) :
    (s.ctrLoad v).hbLed = s.hbLed := rfl

@[simp] theorem State.ctrLoad_out (s : State) (v : Nat) :
    (s.ctrLoad v).out = { s.out with ctrLoad := some v } := rfl

@[simp] theorem State.ctrLoad_levels (s : State) (v : Nat) :
    (s.ctrLoad v).levels = s.levels := rfl

@[simp] theorem State.ctrLoad_inputs (s : State) (v : Nat) :
    (s.ctrLoad v).inputs = s.inputs := rfl

/-! ### `State.requestDelay` -/

@[simp] theorem State.requestDelay_cfg (s : State) :
    s.requestDelay.cfg = s.cfg := rfl

@[simp] theorem State.requestDelay_rawPosition (s : State) :
    s.requestDelay.rawPosition = s.rawPosition := rfl

@[simp] theorem State.requestDelay_logicalValue (s : State) :
    s.requestDelay.logicalValue = s.logicalValue := rfl

@[simp] theorem State.requestDelay_direction (s : State) :
    s.requestDelay.direction = s.direction := rfl

@[simp] theorem State.requestDelay_isPressed (s : State) :
    s.requestDelay.isPressed = s.isPressed := rfl

@[simp] theorem State.requestDelay_lastObservedRaw (s : State) :
    s.requestDelay.lastObservedRaw = s.lastObservedRaw := rfl

@[simp] theorem State.requestDelay_settling (s : State) :
    s.requestDelay.settling = s.settling := rfl

@[simp] theorem State.requestDelay_activeChannel (s : State) :
    s.requestDelay.activeChannel = s.activeChannel := rfl

@[simp] theorem State.requestDelay_armed (s : State) :
    s.requestDelay.armed = s.armed := rfl

@[simp] theorem State.requestDelay_step (s : State) :
    s.requestDelay.step = s.step := rfl

@[simp] theorem State.requestDelay_targetChannel (s : State) :
    s.requestDelay.targetChannel = s.targetChannel := rfl

@[simp] theorem State.requestDelay_hbLed (s : State) :
    s.requestDelay.hbLed = s.hbLed := rfl

@[simp] theorem State.requestDelay_out (s : State) :
    s.requestDelay.out = { s.out with delayReq := true } := rfl

@[simp] theorem State.requestDelay_levels (s : State) :
    s.requestDelay.levels = s.levels := rfl

@[simp] theorem State.requestDelay_inputs (s : State) :
    s.requestDelay.inputs = s.inputs := rfl

/-! ### `State.reseed` -/

@[simp] theorem State.reseed_cfg (s : State) (seed : Nat) (event : WrapEvent) :
    (s.reseed seed event).cfg = s.cfg := rfl

@[simp] theorem State.reseed_rawPosition (s : State) (seed : Nat) (event : WrapEvent) :
    (s.reseed seed event).rawPosition = seed := rfl

@[simp] theorem State.reseed_logicalValue (s : State) (seed : Nat) (event : WrapEvent) :
    (s.reseed seed event).logicalValue = s.logicalValue := rfl

@[simp] theorem State.reseed_direction (s : State) (seed : Nat) (event : WrapEvent) :
    (s.reseed seed event).direction = s.direction := rfl

@[simp] theorem State.reseed_isPressed (s : State) (seed : Nat) (event : WrapEvent) :
    (s.reseed seed event).isPressed = s.isPressed := rfl

@[simp] theorem State.reseed_lastObservedRaw (s : State) (seed : Nat) (event : WrapEvent) :
    (s.reseed seed event).lastObservedRaw = s.lastObservedRaw := rfl

@[simp] theorem State.reseed_settling (s : State) (seed : Nat) (event : WrapEvent) :
    (s.reseed seed event).settling = s.settling := rfl

@[simp] theorem State.reseed_activeChannel (s : State) (seed : Nat) (event : WrapEvent) :
    (s.reseed seed event).activeChannel = s.activeChannel := rfl

@[simp] theorem State.reseed_armed (s : State) (seed : Nat) (event : WrapEvent) :
    (s.reseed seed event).armed = s.armed := rfl

@[simp] theorem State.reseed_step (s : State) (seed : Nat) (event : WrapEvent) :
    (s.reseed seed event).step = s.step := rfl

@[simp] theorem State.reseed_targetChannel (s : State) (seed : Nat) (event : WrapEvent) :
    (s.reseed seed event).targetChannel = s.targetChannel := rfl

@[simp] theorem State.reseed_hbLed (s : State) (seed : Nat) (event : WrapEvent) :
    (s.reseed seed event).hbLed = s.hbLed := rfl

@[simp] theorem State.reseed_out (s : State) (seed : Nat) (event : WrapEvent) :
    (s.reseed seed event).out = { s.out with wrapEvent := event, ctrLoad := some seed } := rfl

@[simp] theorem State.reseed_levels (s : State) (seed : Nat) (event : WrapEvent) :
    (s.reseed seed event).levels = s.levels := rfl

@[simp] theorem State.reseed_inputs (s : State) (seed : Nat) (event : WrapEvent) :
    (s.reseed seed event).inputs = s.inputs := rfl

/-! ### `State.arm` -/

@[simp] theorem State.arm_cfg (s : State) (t : Channel) :
    (s.arm t).cfg = s.cfg := rfl

@[simp] theorem State.arm_rawPosition (s : State) (t : Channel) :
    (s.arm t).rawPosition = s.rawPosition := rfl

@[simp] theorem State.arm_logicalValue (s : State) (t : Channel) :
    (s.arm t).logicalValue = s.logicalValue := rfl

@[simp] theorem State.arm_direction (s : State) (t : Channel) :
    (s.arm t).direction = s.direction := rfl

@[simp] theorem State.arm_isPressed (s : State) (t : Channel) :
    (s.arm t).isPressed = s.isPressed := rfl

@[simp] theorem State.arm_lastObservedRaw (s : State) (t : Channel) :
    (s.arm t).lastObservedRaw = s.lastObservedRaw := rfl

@[simp] theorem State.arm_settling (s : State) (t : Channel) :
    (s.arm t).settling = s.settling := rfl

@[simp] theorem State.arm_activeChannel (s : State) (t : Channel) :
    (s.arm t).activeChannel = s.activeChannel := rfl

@[simp] theorem State.arm_armed (s : State) (t : Channel) :
    (s.arm t).armed = true := rfl

@[simp] theorem State.arm_step (s : State) (t : Channel) :
    (s.arm t).step = 0 := rfl

@[simp] theorem State.arm_targetChannel (s : State) (t : Channel) :
    (s.arm t).targetChannel = t := rfl

@[simp] theorem State.arm_hbLed (s : State) (t : Channel) :
    (s.arm t).hbLed = s.hbLed := rfl

@[simp] theorem State.arm_out (s : State) (t : Channel) :
    (s.arm t).out = s.out := rfl

@[simp] theorem State.arm_levels (s : State) (t : Channel) :
    (s.arm t).levels = s.levels := rfl

@[simp] theorem State.arm_inputs (s : State) (t : Channel) :
    (s.arm t).inputs = s.inputs := rfl

/-! ### `State.onPressEdge` -/

@[simp] theorem State.onPressEdge_cfg (s : State) :
    s.onPressEdge.cfg = s.cfg := rfl

@[simp] theorem State.onPressEdge_rawPosition (s : State) :
    s.onPressEdge.rawPosition = 0 := rfl

@[simp] theorem State.onPressEdge_logicalValue (s : State) :
    s.onPressEdge.logicalValue = 0 := rfl

@[simp] theorem State.onPressEdge_direction (s : State) :
    s.onPressEdge.direction = s.direction := rfl

@[simp] theorem State.onPressEdge_isPressed (s : State) :
    s.onPressEdge.isPressed = s.isPressed := rfl

@[simp] theorem State.onPressEdge_lastObservedRaw (s : State) :
    s.onPressEdge.lastObservedRaw = s.lastObservedRaw := rfl

@[simp] theorem State.onPressEdge_settling (s : State) :
    s.onPressEdge.settling = s.settling := rfl

@[simp] theorem State.onPressEdge_activeChannel (s : State) :
    s.onPressEdge.activeChannel = s.activeChannel.next := rfl

@[simp] theorem State.onPressEdge_armed (s : State) :
    s.onPressEdge.armed = true := rfl

@[simp] theorem State.onPressEdge_step (s : State) :
    s.onPressEdge.step = 0 := rfl

@[simp] theorem State.onPressEdge_targetChannel (s : State) :
    s.onPressEdge.targetChannel = s.activeChannel := rfl

@[simp] theorem State.onPressEdge_hbLed (s : State) :
    s.onPressEdge.hbLed = s.hbLed := rfl

@[simp] theorem State.onPressEdge_out (s : State) :
    s.onPressEdge.out = { s.out with ctrLoad := some 0, pwm := some ⟨s.activeChannel, 0, .selector⟩ } := rfl

@[simp] theorem State.onPressEdge_levels (s : State) :
    s.onPressEdge.levels = s.levels.set s.activeChannel 0 := rfl

@[simp] theorem State.onPressEdge_inputs (s : State) :
    s.onPressEdge.inputs = s.inputs := rfl

/-! ### `State.resetEdge` -/

@[simp] theorem State.resetEdge_cfg (s : State) :
    s.resetEdge.cfg = s.cfg := rfl

@[simp] theorem State.resetEdge_rawPosition (s : State) :
    s.resetEdge.rawPosition = 0 := rfl

@[simp] theorem State.resetEdge_logicalValue (s : State) :
    s.resetEdge.logicalValue = 0 := rfl

@[simp] theorem State.resetEdge_direction (s : State) :
    s.resetEdge.direction = .cw := rfl

@[simp] theorem State.resetEdge_isPressed (s : State) :
    s.resetEdge.isPressed = false := rfl

@[simp] theorem State.resetEdge_lastObservedRaw (s : State) :
    s.resetEdge.lastObservedRaw = false := rfl

@[simp] theorem State.resetEdge_settling (s : State) :
    s.resetEdge.settling = false := rfl

@[simp] theorem State.resetEdge_activeChannel (s : State) :
    s.resetEdge.activeChannel = .ch1 := rfl

@[simp] theorem State.resetEdge_armed (s : State) :
    s.resetEdge.armed = false := rfl

@[simp] theorem State.resetEdge_step (s : State) :
    s.resetEdge.step = 0 := rfl

@[simp] theorem State.resetEdge_targetChannel (s : State) :
    s.resetEdge.targetChannel = .ch1 := rfl

@[simp] theorem State.resetEdge_hbLed (s : State) :
    s.resetEdge.hbLed = false := rfl

@[simp] theorem State.resetEdge_out (s : State) :
    s.resetEdge.out = Out.idle := rfl

@[simp] theorem State.resetEdge_levels (s : State) :
    s.resetEdge.levels = s.levels := rfl

@[simp] theorem State.resetEdge_inputs (s : State) :
    s.resetEdge.inputs = s.inputs := rfl

/-! ### `State.present` -/

@[simp] theorem State.present_cfg (s : State) (w : Nat) :
    (s.present w).cfg = s.cfg := rfl

@[simp] theorem State.present_rawPosition (s : State) (w : Nat) :
    (s.present w).rawPosition = s.rawPosition := rfl

@[simp] theorem State.present_logicalValue (s : State) (w : Nat) :
    (s.present w).logicalValue = s.logicalValue := rfl

@[simp] theorem State.present_direction (s : State) (w : Nat) :
    (s.present w).direction = s.direction := rfl

@[simp] theorem State.present_isPressed (s : State) (w : Nat) :
    (s.present w).isPressed = s.isPressed := rfl

@[simp] theorem State.present_lastObservedRaw (s : State) (w : Nat) :
    (s.present w).lastObservedRaw = s.lastObservedRaw := rfl

@[simp] theorem State.present_settling (s : State) (w : Nat) :
    (s.present w).settling = s.settling := rfl

@[simp] theorem State.present_activeChannel (s : State) (w : Nat) :
    (s.present w).activeChannel = s.activeChannel := rfl

@[simp] theorem State.present_armed (s : State) (w : Nat) :
    (s.present w).armed = s.armed := rfl

@[simp] theorem State.present_step (s : State) (w : Nat) :
    (s.present w).step = s.step := rfl

@[simp] theorem State.present_targetChannel (s : State) (w : Nat) :
    (s.present w).targetChannel = s.targetChannel := rfl

@[simp] theorem State.present_hbLed (s : State) (w : Nat) :
    (s.present w).hbLed = s.hbLed := rfl

@[simp] theorem State.present_out (s : State) (w : Nat) :
    (s.present w).out = s.out := rfl

@[simp] theorem State.present_levels (s : State) (w : Nat) :
    (s.present w).levels = s.levels := rfl

@[simp] theorem State.present_inputs (s : State) (w : Nat) :
    (s.present w).inputs = ⟨false, true, w⟩ :: s.inputs := rfl

end Sys2Proof.Machine
end

