-- ==== Sys2Proof/Laws/Ops.lean ====
section
/-! SUPPORT. One lemma per shared operation that says everything it can do; proofs cite these and unfold no operation. -/

namespace Sys2Proof.Machine

/-! ### The PWM channel space -/

@[simp] theorem Levels.get_set_same (l : Levels) (ch : Channel) (v : Nat) : (l.set ch v).get ch = v := by
  cases ch <;> rfl

theorem Levels.get_set_other (l : Levels) {ch ch' : Channel} (v : Nat) (h : ch' ≠ ch) :
    (l.set ch v).get ch' = l.get ch' := by
  cases ch <;> cases ch' <;> first | rfl | exact absurd rfl h

/-! ### Operands -/

theorem candidate_eq (rawCount : Nat) : candidate rawCount = rawCount / 4 := rfl

theorem maxCount_eq (c : Config) : c.maxCount = 4 * c.n := rfl

theorem pressedNow_eq (btnPin : Bool) : pressedNow btnPin = !btnPin := rfl

theorem decodeDirection_eq (rawDir : Bool) : decodeDirection rawDir = if rawDir then .ccw else .cw := rfl

theorem blinkLevel_eq (c : Config) (step : StepIndex) :
    blinkLevel c step = if step = 0 ∨ step = 2 then c.blinkFull else 0 := rfl

/-! ### The channel cycle -/

theorem Channel.next_ne (c : Channel) : c.next ≠ c := by
  cases c <;> decide

@[simp] theorem Channel.next_next_next_next (c : Channel) : c.next.next.next.next = c := by
  cases c <;> rfl

/-! ### The input samples -/

theorem State.takeSample_cons {s : State} {c : Cycle} {rest : List Cycle} (h : s.inputs = c :: rest) :
    s.takeSample = (c, { s with inputs := rest }) := by
  simp [State.takeSample, h]

theorem State.takeSample_nil {s : State} (h : s.inputs = []) : s.takeSample = (⟨false, false, 0⟩, s) := by
  simp [State.takeSample, h]

theorem step_of_cons {s : State} {c : Cycle} {rest : List Cycle} (h : s.inputs = c :: rest) :
    step s = State.clockEdge { s with inputs := rest } c := by
  simp [step, State.takeSample_cons h]

theorem step_of_nil {s : State} (h : s.inputs = []) : step s = .next s.idleEdge := by
  simp [step, State.takeSample_nil h, State.clockEdge]

/-! ### The procedures: every branch with its condition and its whole result -/

/-- NORMALIZE takes one of its three branches (41_encoder_normalizer.md R138). -/
theorem State.normalize_cases (s : State) (rawCount : Nat) (rawDir : Bool) :
    (candidate rawCount = s.cfg.n ∧ s.logicalValue = 0 ∧ s.normalize rawCount rawDir = s.reseed 0 .low)
    ∨ (candidate rawCount = 0 ∧ s.logicalValue = s.cfg.n
        ∧ s.normalize rawCount rawDir = s.reseed s.cfg.maxCount .high)
    ∨ (¬ (candidate rawCount = s.cfg.n ∧ s.logicalValue = 0)
        ∧ ¬ (candidate rawCount = 0 ∧ s.logicalValue = s.cfg.n)
        ∧ s.normalize rawCount rawDir = (s.acceptValue rawCount).acceptDirection rawDir) := by
  have two := s.cfg.two_le_n
  unfold State.normalize State.wrapsLow State.wrapsHigh
  by_cases low : candidate rawCount = s.cfg.n ∧ s.logicalValue = 0
  · exact .inl ⟨low.1, low.2, by simp [low.1, low.2]⟩
  · by_cases high : candidate rawCount = 0 ∧ s.logicalValue = s.cfg.n
    · refine .inr (.inl ⟨high.1, high.2, ?_⟩)
      simp only [high.1, high.2, Bool.and_eq_true, decide_eq_true_eq]
      rw [if_neg (by omega), if_pos ⟨trivial, trivial⟩]
    · refine .inr (.inr ⟨low, high, ?_⟩)
      simp only [Bool.and_eq_true, decide_eq_true_eq]
      rw [if_neg low, if_neg high]

/-- The value half of the normal branch (R135). -/
theorem State.acceptValue_eq (s : State) (rawCount : Nat) :
    s.acceptValue rawCount =
      { s with
        rawPosition := rawCount
        logicalValue := candidate rawCount
        out := { s.out with
          valueChanged := if candidate rawCount = s.logicalValue then s.out.valueChanged else true
          pwm := if candidate rawCount = s.logicalValue then s.out.pwm
            else some ⟨s.activeChannel, candidate rawCount, .normalizer⟩ }
        levels := if candidate rawCount = s.logicalValue then s.levels
          else s.levels.set s.activeChannel (candidate rawCount) } := by
  unfold State.acceptValue
  split
  · next same => simp [← same]
  · next changed => simp [State.pwmWrite]

/-- The direction half of the normal branch (R136). -/
theorem State.acceptDirection_eq (s : State) (rawDir : Bool) :
    s.acceptDirection rawDir =
      { s with
        direction := decodeDirection rawDir
        out := { s.out with
          dirChanged := if decodeDirection rawDir = s.direction then s.out.dirChanged else true } } := by
  unfold State.acceptDirection
  split
  · next same => simp [same]
  · rfl

/-- DEBOUNCE_SAMPLE (42_button_debouncer.md R152), called only while not settling. -/
theorem State.debounceSample_eq (s : State) (btnPin : Bool) :
    s.debounceSample btnPin =
      { s with
        lastObservedRaw := pressedNow btnPin
        settling := if pressedNow btnPin = s.isPressed then s.settling else true
        out := { s.out with
          delayReq := if pressedNow btnPin = s.isPressed then s.out.delayReq else true } } := by
  unfold State.debounceSample
  split <;> rfl

/-- DEBOUNCE_COMPLETE on a press (42_button_debouncer.md R154, 43_channel_selector.md R172). -/
theorem State.debounceComplete_of_pressed {s : State} (h : s.lastObservedRaw = true) :
    s.debounceComplete = State.onPressEdge
      { s with settling := false, isPressed := true, out := { s.out with edge := .pressed } } := by
  unfold State.debounceComplete
  simp [h]

/-- DEBOUNCE_COMPLETE on a release (42_button_debouncer.md R154). -/
theorem State.debounceComplete_of_released {s : State} (h : s.lastObservedRaw = false) :
    s.debounceComplete =
      { s with settling := false, isPressed := false, out := { s.out with edge := .released } } := by
  unfold State.debounceComplete
  simp [h]

/-- BLINK_STEP while armed (44_blink_sequencer.md R187). -/
theorem State.blinkStep_of_armed {s : State} (h : s.armed = true) :
    s.blinkStep =
      { s.pwmWrite s.targetChannel (blinkLevel s.cfg s.step) .blink with
        step := s.step + 1
        armed := decide (s.step ≠ 3) } := by
  unfold State.blinkStep
  simp [h]

/-- BLINK_STEP while Idle (44_blink_sequencer.md R188). -/
theorem State.blinkStep_of_idle {s : State} (h : s.armed = false) : s.blinkStep = s := by
  unfold State.blinkStep
  simp [h]

/-! ### What an operation can do -/

/-- A POLL that answers a next state was either without effect or effective and in range. -/
theorem execPoll_next {s t : State} {rawCount : Nat} {rawDir btnPin : Bool}
    (h : execPoll rawCount rawDir btnPin s = .next t) :
    (s.settling = true ∧ t = s.accept)
    ∨ (s.settling = false ∧ rawCount ≤ s.cfg.maxCount
        ∧ t = (s.accept.normalize rawCount rawDir).debounceSample btnPin) := by
  unfold execPoll rawCountInRange at h
  split at h
  · next settled => exact .inl ⟨settled, (Host.Outcome.next.inj h).symm⟩
  · next ready =>
    split at h
    · next inside => exact .inr ⟨by simpa using ready, by simpa using inside, (Host.Outcome.next.inj h).symm⟩
    · cases h

/-- A DELAY_DONE was either without effect or completed a settle. -/
theorem execDelayDone_next {s t : State} (h : execDelayDone s = .next t) :
    (s.settling = false ∧ t = s.accept) ∨ (s.settling = true ∧ t = s.accept.debounceComplete) := by
  unfold execDelayDone at h
  split at h
  · next settled => exact .inr ⟨settled, (Host.Outcome.next.inj h).symm⟩
  · next ready => exact .inl ⟨by simpa using ready, (Host.Outcome.next.inj h).symm⟩

/-- Everything an accepted operation that answers a next state can have done. -/
theorem exec_next_cases {i : Instr} {s t : State} (h : exec i s = .next t) :
    t = s.accept
    ∨ (i = .tickHeartbeat ∧ t = { s.accept with hbLed := !s.hbLed })
    ∨ (i = .tickBlink ∧ s.armed = true ∧ t = s.accept.blinkStep)
    ∨ (i = .delayDone ∧ s.settling = true ∧ t = s.accept.debounceComplete)
    ∨ (∃ rawCount rawDir btnPin, i = .poll rawCount rawDir btnPin ∧ s.settling = false
        ∧ rawCount ≤ s.cfg.maxCount
        ∧ t = (s.accept.normalize rawCount rawDir).debounceSample btnPin) := by
  cases i with
  | poll rawCount rawDir btnPin =>
    rcases execPoll_next h with ⟨-, rfl⟩ | ⟨ready, inside, rfl⟩
    · exact .inl rfl
    · exact .inr (.inr (.inr (.inr ⟨rawCount, rawDir, btnPin, rfl, ready, inside, rfl⟩)))
  | delayDone =>
    rcases execDelayDone_next h with ⟨-, rfl⟩ | ⟨settled, rfl⟩
    · exact .inl rfl
    · exact .inr (.inr (.inr (.inl ⟨rfl, settled, rfl⟩)))
  | tickHeartbeat => exact .inr (.inl ⟨rfl, (Host.Outcome.next.inj h).symm⟩)
  | tickBlink =>
    have eq : t = s.accept.blinkStep := (Host.Outcome.next.inj h).symm
    by_cases armed : s.armed = true
    · exact .inr (.inr (.inl ⟨rfl, armed, eq⟩))
    · exact .inl (eq.trans (State.blinkStep_of_idle (s := s.accept) (by simpa using armed)))
  | nop => exact .inl (Host.Outcome.next.inj h).symm
  | tickReserved2 => exact .inl (Host.Outcome.next.inj h).symm
  | tickReserved3 => exact .inl (Host.Outcome.next.inj h).symm
  | reservedOp4 => exact .inl (Host.Outcome.next.inj h).symm
  | reservedOp5 => exact .inl (Host.Outcome.next.inj h).symm
  | reservedOp6 => exact .inl (Host.Outcome.next.inj h).symm
  | reservedOp7 => exact .inl (Host.Outcome.next.inj h).symm

/-- Everything a step that answers a next state can have done. -/
theorem step_next_cases {s t : State} (h : step s = .next t) :
    t = { s.takeSample.2 with out := Out.idle }
    ∨ t = s.takeSample.2.resetEdge
    ∨ ∃ i, decode s.cfg.rawW s.takeSample.1.word = .ok i ∧ exec i s.takeSample.2 = .next t := by
  have cfg_kept : s.takeSample.2.cfg = s.cfg := by
    unfold State.takeSample
    split <;> rfl
  unfold step State.clockEdge at h
  split at h
  · exact .inr (.inl (Host.Outcome.next.inj h).symm)
  · split at h
    · unfold State.acceptWord at h
      rw [cfg_kept] at h
      split at h
      · next i ok => exact .inr (.inr ⟨i, ok, h⟩)
      · cases h
    · exact .inl (Host.Outcome.next.inj h).symm

end Sys2Proof.Machine
end

