-- ==== Sys2Proof/Laws/PerInstr.lean ====
section
/-! SUPPORT. Statements per operation as syntax. Family `EncodeFits`: the canonical word of a well-formed operation is a
word of `RAW_W + 7` bits (30_encoding.md R82). -/

namespace Sys2Proof.Laws

/-- A word packed from fields that fit their widths fits `RAW_W + 7` bits. -/
theorem packWord_lt {rawW op tickId rawCount : Nat} {btnPin rawDir : Bool}
    (hop : op < 8) (htick : tickId < 4) (hcount : rawCount < 2 ^ rawW) :
    packWord rawW op tickId btnPin rawDir rawCount < 2 ^ (rawW + 7) := by
  have hb : bitOf btnPin ≤ 1 := by cases btnPin <;> decide
  have hd : bitOf rawDir ≤ 1 := by cases rawDir <;> decide
  have e1 : bitOf btnPin * (2 ^ rawW * 2) ≤ 1 * (2 ^ rawW * 2) := Nat.mul_le_mul_right _ hb
  have e2 : bitOf rawDir * 2 ^ rawW ≤ 1 * 2 ^ rawW := Nat.mul_le_mul_right _ hd
  have e3 : op * (2 ^ rawW * 16) ≤ 7 * (2 ^ rawW * 16) := Nat.mul_le_mul_right _ (by omega)
  have e4 : tickId * (2 ^ rawW * 4) ≤ 3 * (2 ^ rawW * 4) := Nat.mul_le_mul_right _ (by omega)
  have eq : packWord rawW op tickId btnPin rawDir rawCount
      = op * (2 ^ rawW * 16) + tickId * (2 ^ rawW * 4) + bitOf btnPin * (2 ^ rawW * 2)
        + bitOf rawDir * 2 ^ rawW + rawCount := by
    simp [packWord, Nat.pow_succ, Nat.mul_assoc]
  have bound : 2 ^ (rawW + 7) = 2 ^ rawW * 128 := by
    simp [Nat.pow_succ, Nat.mul_assoc]
  omega

namespace EncodeFits

/-- The canonical word of the operation fits the word's width. -/
def Statement (i : Instr) : Prop :=
  ∀ rawW, i.wellFormed rawW = true → encode rawW i < 2 ^ (rawW + 7)

theorem nop : Statement .nop := fun _ _ => packWord_lt (by decide) (by decide) (Nat.two_pow_pos _)

theorem poll (rawCount : Nat) (rawDir btnPin : Bool) : Statement (.poll rawCount rawDir btnPin) :=
  fun _ wf => packWord_lt (by decide) (by decide) (of_decide_eq_true wf)

theorem delayDone : Statement .delayDone := fun _ _ => packWord_lt (by decide) (by decide) (Nat.two_pow_pos _)

theorem tickHeartbeat : Statement .tickHeartbeat :=
  fun _ _ => packWord_lt (by decide) (by decide) (Nat.two_pow_pos _)

theorem tickBlink : Statement .tickBlink := fun _ _ => packWord_lt (by decide) (by decide) (Nat.two_pow_pos _)

theorem tickReserved2 : Statement .tickReserved2 :=
  fun _ _ => packWord_lt (by decide) (by decide) (Nat.two_pow_pos _)

theorem tickReserved3 : Statement .tickReserved3 :=
  fun _ _ => packWord_lt (by decide) (by decide) (Nat.two_pow_pos _)

theorem reservedOp4 : Statement .reservedOp4 := fun _ _ => packWord_lt (by decide) (by decide) (Nat.two_pow_pos _)

theorem reservedOp5 : Statement .reservedOp5 := fun _ _ => packWord_lt (by decide) (by decide) (Nat.two_pow_pos _)

theorem reservedOp6 : Statement .reservedOp6 := fun _ _ => packWord_lt (by decide) (by decide) (Nat.two_pow_pos _)

theorem reservedOp7 : Statement .reservedOp7 := fun _ _ => packWord_lt (by decide) (by decide) (Nat.two_pow_pos _)

end EncodeFits

end Sys2Proof.Laws
end

