-- ==== Sys2Proof/Tests/Slice0.lean ====
section
/-! SUPPORT. Tests. Expected results are those of 95_test_vectors.md (named V<n> below) or of the encoding tables of
30_encoding.md, and one witness per hypothesis of the statements. -/

namespace Sys2Proof.Tests

open Sys2Proof.Machine

/-! ### Helpers -/

/-- The next state, if there is one. -/
def nextOf : Host.Outcome State Fault Refusal → Option State
  | .next t => some t
  | .fault _ => none
  | .refused _ => none

/-- What a step that presents the word `w` leads to, asked a question about its next state. -/
def after (s : State) (w : Nat) (question : State → Bool) : Bool :=
  ((nextOf (step (s.present w))).map question).getD false

/-- The registers of two states agree. -/
def sameRegisters (s t : State) : Bool :=
  decide ({ s with out := Out.idle, levels := ⟨0, 0, 0, 0⟩, inputs := [] }
    = { t with out := Out.idle, levels := ⟨0, 0, 0, 0⟩, inputs := [] })

/-- The state before V2 to V9, V13 and V16. -/
def busyState : State :=
  { State.reset with
    rawPosition := 8, logicalValue := 2, isPressed := true, lastObservedRaw := true,
    activeChannel := .ch2, armed := true, step := 2, hbLed := true }

/-- The state before V10, V11 and V14: a press is settling. -/
def settlingState : State :=
  { State.reset with rawPosition := 8, logicalValue := 2, lastObservedRaw := true, settling := true }

/-- The dial at its high end, as before V37 to V41. -/
def topState : State := { State.reset with rawPosition := 200, logicalValue := 50 }

/-- A release is settling, as before V55. -/
def releasingState : State :=
  { State.reset with isPressed := true, settling := true, activeChannel := .ch2 }

/-! ### Well-formedness: an ill-formed term for each check -/

theorem test_wellFormed_refuses_a_wide_count : (Instr.poll 65536 false true).wellFormed 16 = false := by decide
theorem test_wellFormed_accepts_the_widest_count : (Instr.poll 65535 true false).wellFormed 16 = true := by decide
theorem test_config_refuses_n_one : Config.check 1 16 16 200 = none := by decide
theorem test_config_refuses_a_narrow_counter : Config.check 50 7 16 100 = none := by decide
theorem test_config_refuses_a_narrow_pwm_port : Config.check 50 16 5 10 = none := by decide
theorem test_config_refuses_a_wide_full_level : Config.check 50 16 7 200 = none := by decide
theorem test_config_accepts_configuration_A : Config.check 50 16 16 200 = some Config.referenceA := by decide
theorem test_logical_value_width_A : Config.referenceA.lvW = 6 := by decide
theorem test_logical_value_width_B : (Config.referenceB 0 (by decide)).lvW = 7 := by decide

/-! ### Decoding: each word written out from R82 to R84 as `op tick_id btn_pin raw_dir raw_count` -/

theorem test_decode_nop : decode 16 0b00011111111111111111111 = .ok .nop := by decide
theorem test_decode_poll : decode 16 0b00100100000000000001000 = .ok (.poll 8 false true) := by decide
theorem test_decode_poll_ignores_tick_id :
    decode 16 0b00111010000000011001000 = .ok (.poll 200 true false) := by decide
theorem test_decode_delay_done : decode 16 0b01001010101111001101111 = .ok .delayDone := by decide
theorem test_decode_tick_heartbeat : decode 16 0b01100000000000000000000 = .ok .tickHeartbeat := by decide
theorem test_decode_tick_blink : decode 16 0b01101111111111111111111 = .ok .tickBlink := by decide
theorem test_decode_tick_id_2 : decode 16 0b01110000000000000000000 = .ok .tickReserved2 := by decide
theorem test_decode_tick_id_3 : decode 16 0b01111000000000000000000 = .ok .tickReserved3 := by decide
theorem test_decode_op_4 : decode 16 0b10000000000000000000000 = .ok .reservedOp4 := by decide
theorem test_decode_op_5 : decode 16 0b10100000000000000000000 = .ok .reservedOp5 := by decide
theorem test_decode_op_6 : decode 16 0b11000000000000000000000 = .ok .reservedOp6 := by decide
theorem test_decode_op_7 : decode 16 0b11111111111111111111111 = .ok .reservedOp7 := by decide
theorem test_decode_refuses_a_wide_number : decode 16 0b100000000000000000000000 = .error .wordTooWide := by decide
theorem test_decode_another_width : decode 9 0b0010010110010000 = .ok (.poll 400 false true) := by decide
theorem test_encode_poll : encode 16 (.poll 200 true true) = 0x1300C8 := by decide
theorem test_table_word : decodeTableWord 24 0x100000 = some (.poll 0 false false) := by decide
theorem test_table_word_for_another_width :
    decode 9 (tableWordFor 9 0x120190) = .ok (.poll 400 false true) := by decide
theorem test_table_word_that_does_not_fit : decode 9 (tableWordFor 9 0x120200) = .error .wordTooWide := by decide
theorem test_channel_codes : ∀ k : Fin 4, (Channel.ofCode k).code = k.val := by decide
theorem test_poll_line_defaults :
    (Line.poll 8 none none).samples State.reset = [⟨false, true, 0x120008⟩] := by decide
theorem test_operation_text : operationText (.poll 100 true true) = "POLL raw=100 dir=1 btn=1" := by decide
theorem test_output_text :
    after State.reset 0x1100C8 (fun t => decide (t.out.text = "wrap=LOW, ctr_load(0), delay_req(2)")) = true := by
  decide

/-! ### Single steps, from the vectors -/

/-- V3: every ignored bit set. -/
theorem test_nop_V3 :
    after busyState 0x0FFFFF (fun t => sameRegisters t busyState && decide (t.out = Out.idle)) = true := by decide

/-- V32: WRAP_LOW; `dir_changed` suppressed. -/
theorem test_poll_V32 :
    after State.reset 0x1300C8 (fun t => sameRegisters t State.reset
      && decide (t.out = { Out.idle with wrapEvent := .low, ctrLoad := some 0 })) = true := by decide

/-- V34: value and direction change at the top, from 1. -/
theorem test_poll_V34 :
    after { State.reset with rawPosition := 4, logicalValue := 1 } 0x1300C8 (fun t =>
      sameRegisters t { topState with direction := .ccw }
      && decide (t.out = { Out.idle with
          valueChanged := true, dirChanged := true, pwm := some ⟨.ch1, 50, .normalizer⟩ })) = true := by decide

/-- V57: a press with the dial at 10. -/
theorem test_delay_done_V57 :
    after { State.reset with
        rawPosition := 40, logicalValue := 10, direction := .ccw, lastObservedRaw := true, settling := true }
      0x200000 (fun t =>
        sameRegisters t { State.reset with
          direction := .ccw, isPressed := true, lastObservedRaw := true, activeChannel := .ch2, armed := true }
        && decide (t.out = { Out.idle with
          edge := .pressed, ctrLoad := some 0, pwm := some ⟨.ch1, 0, .selector⟩ })) = true := by decide

/-- V55: a release. -/
theorem test_delay_done_V55 :
    after releasingState 0x200000 (fun t =>
      sameRegisters t { State.reset with activeChannel := .ch2 }
      && decide (t.out = { Out.idle with edge := .released })) = true := by decide

/-- V14: accepted while settling. -/
theorem test_tick_heartbeat_V14 :
    after settlingState 0x300000 (fun t =>
      sameRegisters t { settlingState with hbLed := true } && decide (t.out = Out.idle)) = true := by decide

/-- V15: accepted while settling; an odd step commands 0. -/
theorem test_tick_blink_V15 :
    after { settlingState with armed := true, step := 1, targetChannel := .ch4 } 0x340000 (fun t =>
      sameRegisters t { settlingState with armed := true, step := 2, targetChannel := .ch4 }
      && decide (t.out.pwm = some ⟨.ch4, 0, .blink⟩)) = true := by decide

/-- V74: the last step. -/
theorem test_tick_blink_V74 :
    after { State.reset with activeChannel := .ch3, armed := true, step := 3, targetChannel := .ch2 } 0x340000
      (fun t => sameRegisters t { State.reset with activeChannel := .ch3, targetChannel := .ch2 }
        && decide (t.out.pwm = some ⟨.ch2, 0, .blink⟩)) = true := by decide

/-- V8, V9. -/
theorem test_reserved_ticks_V8_V9 :
    (after busyState 0x380000 (fun t => sameRegisters t busyState && decide (t.out = Out.idle))
      && after busyState 0x3C0000 (fun t => sameRegisters t busyState && decide (t.out = Out.idle))) = true := by
  decide

/-- V4 to V7. -/
theorem test_reserved_codes_V4_to_V7 :
    ([0x400000, 0x500000, 0x600000, 0x7FFFFF].all fun w =>
      after busyState w (fun t => sameRegisters t busyState && decide (t.out = Out.idle))) = true := by decide

/-- V91, V93: reset wins over an operation in the same cycle. -/
theorem test_reset_V93 :
    ((nextOf (step { busyState with inputs := [⟨true, true, 0x120008⟩] })).map
      (fun t => sameRegisters t State.reset && decide (t.out = Out.idle))) = some true := by decide

/-- The status outputs of one state by the codes of R87, written out from R81. -/
theorem test_status_ports :
    (let p := { busyState with direction := .ccw, targetChannel := .ch4 }.ports
     (p.busy, p.rawPosition, p.logicalValue, p.direction, p.isPressed) = (0, 8, 2, 1, 1)
      ∧ (p.activeChannel, p.blinkArmed, p.blinkStep, p.blinkTarget, p.hbLed) = (0b01, 1, 2, 0b11, 1)) := by decide

/-- Section 2.7: `pwm(CH3, 4, NORMALIZER)` on the wires. -/
theorem test_pwm_port_values :
    (let p := (State.pwmWrite State.reset .ch3 4 .normalizer).ports
     p.pwmValid = 1 ∧ p.pwmChannel = some 0b10 ∧ p.pwmValue = some 0x0004 ∧ p.pwmSrc = 0b01) := by decide

/-- An out-of-range POLL is refused; V10's block, still settling, does not look at its operands. -/
theorem test_poll_out_of_range :
    exec (.poll 201 false true) State.reset = .refused .rawCountOutOfRange
      ∧ (nextOf (exec (.poll 201 false true) settlingState)).isSome = true := ⟨rfl, by decide⟩

/-- The table's word runs as the first operation after reset. -/
theorem test_withFetchWord :
    (nextOf (step (State.reset.withFetchWord 24 0x120008))).map (fun t => t.logicalValue) = some 2 := by decide

/-! ### Witnesses: states and operands that meet the hypotheses of the statements -/

theorem witness_ResetEdgeResetsEveryRegister : (⟨true, true, 0x120008⟩ : Cycle).rst = true := rfl

theorem witness_IdleCycleChangesNothing :
    (⟨false, false, 0x120008⟩ : Cycle).rst = false ∧ (⟨false, false, 0x120008⟩ : Cycle).opValid = false := ⟨rfl, rfl⟩

theorem witness_StepRunsTheDecodedOperation :
    (State.reset.present 0x120008).inputs = ⟨false, true, 0x120008⟩ :: []
      ∧ decode (State.reset.present 0x120008).cfg.rawW 0x120008 = .ok (.poll 8 false true)
      ∧ ({ State.reset with inputs := [⟨true, true, 0⟩] } : State).inputs = ⟨true, true, 0⟩ :: []
      ∧ ({ State.reset with inputs := [⟨false, false, 0⟩] } : State).inputs = ⟨false, false, 0⟩ :: []
      ∧ State.reset.inputs = [] := by decide

theorem witness_DecodeEncodeRoundTrip : (Instr.poll 65535 true true).wellFormed 16 = true := by decide

theorem witness_ExactlyTheOperationWordsDecode : 0x7FFFFF < 2 ^ (16 + 7) ∧ 2 ^ (16 + 7) ≤ 0x800000 := by decide

theorem witness_IgnoredFieldsDoNotMatter :
    (0x100008 / 2 ^ (16 + 4) = 0x1C0008 / 2 ^ (16 + 4) ∧ 0x100008 % 2 ^ (16 + 2) = 0x1C0008 % 2 ^ (16 + 2))
      ∧ (0x340000 / 2 ^ (16 + 4) = 0x37FFFF / 2 ^ (16 + 4) ∧ 0x340000 / 2 ^ (16 + 2) = 0x37FFFF / 2 ^ (16 + 2))
      ∧ 0x000000 / 2 ^ (16 + 4) = 0x0FFFFF / 2 ^ (16 + 4) := by decide

theorem witness_PollWordFieldPositions :
    decode 16 0x1E0008 = .ok (.poll 8 false true)
      ∧ 0x1E0008 = 1 * 2 ^ (16 + 4) + 3 * 2 ^ (16 + 2) + 2 ^ (16 + 1) + 0 + 8 := by decide

theorem witness_words_of_the_operations_without_operands :
    0x0FFFFF / 2 ^ (16 + 4) = 0 ∧ 0x400000 / 2 ^ (16 + 4) = 4 ∧ 0x5FFFFF / 2 ^ (16 + 4) = 5
      ∧ 0x600000 / 2 ^ (16 + 4) = 6 ∧ 0x7FFFFF / 2 ^ (16 + 4) = 7 ∧ 0x300000 / 2 ^ (16 + 2) = 12
      ∧ 0x37FFFF / 2 ^ (16 + 2) = 13 ∧ 0x380000 / 2 ^ (16 + 2) = 14 ∧ 0x3FFFFF / 2 ^ (16 + 2) = 15 := by decide

theorem witness_PollWhileSettlingHasNoEffect : settlingState.settling = true := rfl

theorem witness_DelayDoneWhileNotSettlingHasNoEffect : State.reset.settling = false := rfl

theorem witness_CandidateIsFloorDivision :
    200 ≤ 4 * Config.referenceA.n ∧ candidate 200 = 50 ∧ candidate 199 = 49 ∧ candidate 4 = 1 ∧ candidate 3 = 0 := by
  decide

theorem witness_PollWrapLowReseedsToZero :
    State.reset.settling = false ∧ 200 ≤ State.reset.cfg.maxCount ∧ 200 / 4 = State.reset.cfg.n
      ∧ State.reset.logicalValue = 0 := by decide

theorem witness_PollWrapHighReseedsToMaximum :
    topState.settling = false ∧ 3 ≤ topState.cfg.maxCount ∧ 3 / 4 = 0 ∧ topState.logicalValue = topState.cfg.n := by
  decide

/-- The values next to the two boundary conditions: 199 at the low end, 4 at the high end. -/
theorem witness_PollNormalBranchAcceptsTheCandidate :
    (199 ≤ State.reset.cfg.maxCount ∧ ¬ (199 / 4 = State.reset.cfg.n ∧ State.reset.logicalValue = 0)
        ∧ ¬ (199 / 4 = 0 ∧ State.reset.logicalValue = State.reset.cfg.n))
      ∧ (¬ (4 / 4 = topState.cfg.n ∧ topState.logicalValue = 0)
        ∧ ¬ (4 / 4 = 0 ∧ topState.logicalValue = topState.cfg.n)) := by decide

theorem witness_PollSamplesTheButton : State.reset.settling = false ∧ 0 ≤ State.reset.cfg.maxCount := by decide

theorem witness_PollOutOfRangeIsRefused : State.reset.settling = false ∧ State.reset.cfg.maxCount < 201 := by decide

theorem witness_DelayDoneReportsTheEdge :
    (settlingState.settling = true ∧ settlingState.lastObservedRaw = true)
      ∧ releasingState.settling = true ∧ releasingState.lastObservedRaw = false := ⟨⟨rfl, rfl⟩, rfl, rfl⟩

theorem witness_BlinkTickPlaysOneStep :
    busyState.armed = true ∧ State.reset.armed = false ∧ ({ State.reset with step := 2 } : State).armed = false :=
  ⟨rfl, rfl, rfl⟩

/-- Steps that change each register, for the clauses of RegistersChangeOnlyByTheirWriters. -/
theorem witness_RegistersChangeOnlyByTheirWriters :
    after State.reset 0x110008 (fun t => decide (t.rawPosition ≠ 0 ∧ t.logicalValue ≠ 0 ∧ t.direction ≠ .cw
        ∧ t.lastObservedRaw ≠ false ∧ t.settling ≠ false)) = true
      ∧ after settlingState 0x200000 (fun t => decide (t.rawPosition ≠ 8 ∧ t.logicalValue ≠ 2 ∧ t.isPressed ≠ false
        ∧ t.settling ≠ true ∧ t.activeChannel ≠ .ch1 ∧ t.armed ≠ false)) = true
      ∧ after { settlingState with activeChannel := .ch2, armed := true, step := 3 } 0x200000
        (fun t => decide (t.targetChannel ≠ .ch1 ∧ t.step ≠ 3)) = true
      ∧ after { busyState with step := 3 } 0x340000 (fun t => decide (t.armed ≠ true ∧ t.step ≠ 3)) = true
      ∧ after State.reset 0x300000 (fun t => decide (t.hbLed ≠ false)) = true := by decide

/-- Next states with and without a command, with and without a press. -/
theorem witness_LevelsChangeOnlyByTheCommand :
    after settlingState 0x200000 (fun t => decide (t.out.pwm ≠ none ∧ t.out.edge = .pressed)) = true
      ∧ after State.reset 0x000000 (fun t => decide (t.out.pwm = none ∧ t.out.edge ≠ .pressed)) = true := by decide

theorem witness_ChannelAdvancesExactlyOnPress : (nextOf (exec .delayDone settlingState)).isSome = true := by decide

theorem witness_PressIffSelectorCommand :
    after settlingState 0x200000 (fun t => decide (t.out.edge = .pressed)) = true := by decide

theorem witness_WrapStepSuppressesChangeEvents :
    after State.reset 0x1300C8 (fun t => decide (t.out.wrapEvent = .low)) = true
      ∧ after topState 0x120003 (fun t => decide (t.out.wrapEvent = .high)) = true := by decide

theorem witness_ValueChangedIffNormalizerCommand :
    after State.reset 0x120004 (fun t => decide (t.out.valueChanged = true
      ∧ t.out.pwm = some ⟨.ch1, 1, .normalizer⟩)) = true := by decide

theorem witness_UnreadStateDoesNotInterfere :
    (nextOf (exec .delayDone settlingState)).isSome = true
      ∧ ({ settlingState with rawPosition := 9, hbLed := true } : State) ≠ settlingState := by decide

theorem witness_HeartbeatCommutesWithEveryOperation :
    (nextOf (execAll [.tickHeartbeat, .poll 8 false false] State.reset)).isSome = true := by decide

theorem witness_BlinkTickCommutesWithPoll :
    ({ State.reset with activeChannel := .ch2, armed := true } : State).ChannelInv
      ∧ (nextOf (execAll [.tickBlink, .poll 8 false false]
          { State.reset with activeChannel := .ch2, armed := true })).isSome = true := ⟨fun _ => rfl, by decide⟩

theorem witness_EncoderInvariantKept :
    (State.reset.present 0x120008).EncoderInv ∧ (nextOf (step (State.reset.present 0x120008))).isSome = true :=
  ⟨⟨rfl, by decide, by decide⟩, by decide⟩

theorem witness_EveryStepKeepsTheInvariant :
    (State.reset.present 0x100008).Inv ∧ (nextOf (step (State.reset.present 0x100008))).isSome = true := by
  refine ⟨⟨⟨rfl, by decide, by decide⟩, fun _ => rfl, ?_, ?_, ?_, ?_, ?_⟩, by decide⟩
  · unfold State.ButtonInv
    decide
  · unfold State.ChannelInv
    decide
  · exact fun v h => Option.noConfusion rfl (heq_of_eq h)
  · exact fun v h => Option.noConfusion rfl (heq_of_eq h)
  · intro ch
    cases ch <;> decide

/-- A step with a command and a load, one with a wrap event, and one with neither. -/
theorem witness_EventOutputsShowTheStep :
    after settlingState 0x200000 (fun t => decide (t.out.pwm = some ⟨.ch1, 0, .selector⟩
        ∧ t.out.ctrLoad = some 0 ∧ t.out.edge = .pressed)) = true
      ∧ after topState 0x120003 (fun t => decide (t.out.wrapEvent = .high)) = true
      ∧ State.reset.out.pwm = none := by decide

theorem witness_RegistersFitTheirWidths : topState.EncoderInv := ⟨rfl, by decide, by decide⟩

theorem witness_PresentedOperationsRunInOrder :
    (∀ i ∈ [Instr.poll 8 false false, .delayDone, .tickBlink], i.wellFormed State.reset.cfg.rawW = true)
      ∧ (nextOf (execAll [.poll 8 false false, .delayDone, .tickBlink] State.reset)).isSome = true := by decide

theorem witness_EdgesAlternateAlongEveryRun : settlingState.ButtonInv := by
  unfold State.ButtonInv
  decide

/-- A run with one reported press and one heartbeat tick. -/
theorem witness_ActiveChannelCountsPresses :
    pressCount (outputsOf [.poll 0 false false, .tickHeartbeat, .delayDone] State.reset) = 1
      ∧ (nextOf (execAll [.poll 0 false false, .tickHeartbeat, .delayDone] State.reset)).isSome = true := by decide

/-- The second clause: the button pressed and released four times, all presses reported. -/
theorem witness_four_presses :
    pressCount (outputsOf ((List.replicate 4
      [Instr.poll 0 false false, .delayDone, .poll 0 false true, .delayDone]).flatten) State.reset) = 4 := by decide

/-- The first premise holds while Idle after a sequence has ended, the second along a run from reset. -/
theorem witness_TargetTrailsTheActiveChannel :
    (let s : State := { State.reset with activeChannel := .ch2 }
     s.armed = false ∧ s.activeChannel = s.targetChannel.next
      ∧ (nextOf (execAll [.tickBlink] s)).isSome = true)
      ∧ 0 < pressCount (outputsOf [.poll 0 false false, .delayDone] State.reset)
      ∧ (nextOf (execAll [.poll 0 false false, .delayDone] State.reset)).isSome = true := by decide

theorem witness_HeartbeatParity : (nextOf (execAll [.tickHeartbeat, .tickHeartbeat] State.reset)).isSome = true := by
  decide

/-- A run that commands CH1 three times. -/
theorem witness_LevelsAreTheLastCommands :
    (nextOf (execAll [.poll 8 false false, .delayDone, .tickBlink] State.reset)).isSome = true := by decide

theorem witness_BlinkSequencePlaysOnOffOnOff :
    ({ State.reset with activeChannel := .ch2, armed := true } : State).armed = true
      ∧ ({ State.reset with activeChannel := .ch2, armed := true } : State).step = 0
      ∧ (nextOf (execAll [.tickBlink, .poll 8 false true, .tickBlink]
          { State.reset with activeChannel := .ch2, armed := true })).isSome = true
      ∧ pressCount (outputsOf [.tickBlink, .poll 8 false true, .tickBlink]
          { State.reset with activeChannel := .ch2, armed := true }) = 0 := by decide

/-- One tick before, at and after the end of the sequence. -/
theorem witness_BlinkSequence_boundaries :
    ∀ k ∈ [3, 4, 5], (nextOf (execAll (List.replicate k .tickBlink)
        { State.reset with activeChannel := .ch2, armed := true })).isSome = true
      ∧ pressCount (outputsOf (List.replicate k .tickBlink)
        { State.reset with activeChannel := .ch2, armed := true }) = 0 := by decide

theorem witness_DialSticksAtBothEnds :
    topState.EncoderInv ∧ (⟨topState, ⟨200, false⟩⟩ : Bench).counter.value = topState.rawPosition
      ∧ topState.settling = false ∧ topState.isPressed = false :=
  ⟨⟨rfl, by decide, by decide⟩, rfl, rfl, rfl⟩

theorem witness_StaleCountAfterWrapIsHarmless :
    (nextOf (exec (.poll 0 false true) topState)).map (fun t => decide (t.out.wrapEvent ≠ .none)) = some true
      ∧ topState.settling = false ∧ topState.isPressed = false ∧ 3 ≤ topState.cfg.maxCount ∧ 3 / 4 = 0 / 4 := by
  decide

theorem witness_MissedWrapJumpsTheDial :
    State.reset.settling = false ∧ State.reset.logicalValue = 0 := ⟨rfl, rfl⟩

theorem witness_RearmAbandonsTheOldTarget :
    (let s : State := { settlingState with activeChannel := .ch3, armed := true, step := 3, targetChannel := .ch2 }
     s.settling = true ∧ s.lastObservedRaw = true ∧ s.armed = true ∧ s.ChannelInv) :=
  ⟨rfl, rfl, rfl, fun _ => rfl⟩

/-- A run after the press without a value change and without a further press: the button is released, a blink step and a
wrap step are taken. The counts are the two ends of their range. -/
theorem witness_NewChannelJumpsAtTheFirstChange :
    (settlingState.settling = true ∧ settlingState.lastObservedRaw = true)
      ∧ (4 ≤ 4 ∧ 4 < settlingState.cfg.maxCount ∧ 199 < settlingState.cfg.maxCount)
      ∧ ((nextOf (exec .delayDone settlingState)).map fun t =>
          let is : List Instr := [.poll 3 false true, .delayDone, .tickBlink, .poll 200 true true]
          decide ((∀ o ∈ outputsOf is t, o.valueChanged = false) ∧ pressCount (outputsOf is t) = 0
            ∧ (nextOf (execAll is t)).map (fun u => u.settling) = some false)) = some true := by decide

theorem witness_PressPseudoOperationReportsAPress :
    topState.EncoderInv ∧ topState.settling = false ∧ topState.isPressed = false :=
  ⟨⟨rfl, by decide, by decide⟩, rfl, rfl⟩

end Sys2Proof.Tests
end

section
/-! PROOFS. The registers after reset (10_state.md R38) and the invariant of EncoderState (10_state.md R24). A NORMALIZE in
range and a press establish the invariant whatever held before; everything else a step can do leaves `raw_position`,
`logical_value` and the parameters as they were. -/

namespace Sys2Proof.Machine

/-! ### What taking an input sample leaves unchanged -/

theorem State.takeSample_snd (s : State) : s.takeSample.2 = { s with inputs := s.inputs.tail } := by
  cases inputs : s.inputs with
  | nil => rw [State.takeSample_nil inputs, List.tail_nil, ← inputs]
  | cons c rest => simp [State.takeSample_cons inputs]

/-! ### Reset -/

/-- Settles O1: each register is a field that `State.resetFor` writes out. -/
theorem resetStateRegisters : Obligations.ResetStateRegisters := by
  unfold Obligations.ResetStateRegisters
  intro c
  exact ⟨rfl, rfl, rfl, rfl, rfl, rfl, rfl, rfl, rfl, rfl, rfl⟩

/-! ### The invariant of EncoderState -/

/-- The invariant speaks of three fields only. -/
theorem State.EncoderInv.of_same {s t : State} (inv : s.EncoderInv) (cfg : t.cfg = s.cfg)
    (raw : t.rawPosition = s.rawPosition) (value : t.logicalValue = s.logicalValue) : t.EncoderInv := by
  unfold State.EncoderInv
  rw [cfg, raw, value]
  exact inv

/-- A dial at its low end, where reset, WRAP_LOW and a press put it. -/
theorem State.encoderInv_of_zero {s : State} (raw : s.rawPosition = 0) (value : s.logicalValue = 0) :
    s.EncoderInv := by
  simp [State.EncoderInv, raw, value]

/-- A dial at its high end, where WRAP_HIGH puts it. -/
theorem State.encoderInv_of_max {s : State} (raw : s.rawPosition = s.cfg.maxCount)
    (value : s.logicalValue = s.cfg.n) : s.EncoderInv := by
  simp [State.EncoderInv, raw, value, maxCount_eq]

/-- A dial at an accepted count, where the normal branch of NORMALIZE puts it. -/
theorem State.encoderInv_of_candidate {s : State} {rawCount : Nat} (inside : rawCount ≤ s.cfg.maxCount)
    (raw : s.rawPosition = rawCount) (value : s.logicalValue = candidate rawCount) : s.EncoderInv := by
  have candidate_le : candidate rawCount ≤ s.cfg.n := by
    rw [maxCount_eq] at inside
    rw [candidate_eq]
    omega
  unfold State.EncoderInv
  rw [raw, value]
  exact ⟨rfl, candidate_le, inside⟩

/-- NORMALIZE in range establishes the invariant, from any state. -/
theorem State.normalize_encoderInv (s : State) {rawCount : Nat} (rawDir : Bool)
    (inside : rawCount ≤ s.cfg.maxCount) : (s.normalize rawCount rawDir).EncoderInv := by
  obtain ⟨-, low, eq⟩ | ⟨-, high, eq⟩ | ⟨-, -, eq⟩ := s.normalize_cases rawCount rawDir
  · rw [eq]
    exact State.encoderInv_of_zero rfl low
  · rw [eq]
    exact State.encoderInv_of_max rfl high
  · rw [eq, State.acceptDirection_eq, State.acceptValue_eq]
    exact State.encoderInv_of_candidate inside rfl rfl

/-- DEBOUNCE_COMPLETE keeps the invariant: a press puts the dial at its low end, a release does not move it. -/
theorem State.EncoderInv.debounceComplete {s : State} (inv : s.EncoderInv) : s.debounceComplete.EncoderInv := by
  cases reading : s.lastObservedRaw with
  | true =>
    rw [State.debounceComplete_of_pressed reading]
    exact State.encoderInv_of_zero rfl rfl
  | false =>
    rw [State.debounceComplete_of_released reading]
    exact inv.of_same rfl rfl rfl

/-- Every accepted operation with a next state keeps the invariant. -/
theorem exec_keeps_encoderInv {i : Instr} {s t : State} (inv : s.EncoderInv) (h : exec i s = .next t) :
    t.EncoderInv := by
  have accepted : s.accept.EncoderInv := inv.of_same rfl rfl rfl
  obtain rfl | ⟨-, rfl⟩ | ⟨-, armed, rfl⟩ | ⟨-, -, rfl⟩ | ⟨rawCount, rawDir, btnPin, -, -, inside, rfl⟩ :=
    exec_next_cases h
  · exact accepted
  · exact inv.of_same rfl rfl rfl
  · rw [State.blinkStep_of_armed (s := s.accept) armed]
    exact inv.of_same rfl rfl rfl
  · exact accepted.debounceComplete
  · rw [State.debounceSample_eq]
    exact (s.accept.normalize_encoderInv rawDir inside).of_same rfl rfl rfl

/-- Every step with a next state keeps the invariant. -/
theorem step_keeps_encoderInv {s t : State} (inv : s.EncoderInv) (h : step s = .next t) : t.EncoderInv := by
  have taken : s.takeSample.2.EncoderInv := by
    rw [State.takeSample_snd]
    exact inv.of_same rfl rfl rfl
  obtain rfl | rfl | ⟨i, -, ran⟩ := step_next_cases h
  · exact taken.of_same rfl rfl rfl
  · exact State.encoderInv_of_zero rfl rfl
  · exact exec_keeps_encoderInv taken ran

/-- Settles O37: the dial starts at its low end, and every step keeps the invariant. -/
theorem encoderInvariantKept : Obligations.EncoderInvariantKept := by
  unfold Obligations.EncoderInvariantKept
  exact ⟨fun _ => State.encoderInv_of_zero rfl rfl, fun _ _ => step_keeps_encoderInv⟩

end Sys2Proof.Machine
end

section
/-! PROOFS. The operations without effect, the idle cycle and the two ticks (40_operations.md). The words of an operation
are told by their upper bits: `op` alone or, for a TICK, `op` and `tick_id` together, which hold `12 + tick_id`. -/

namespace Sys2Proof.Machine

/-! ### The decoder: one equation per value of `op` (30_encoding.md R83) -/

theorem decode_of_op_zero {rawW w : Nat} (op : opField rawW w = 0) : decode rawW w = .ok .nop := by
  simp [decode, op]

theorem decode_of_op_three {rawW w : Nat} (op : opField rawW w = 3) :
    decode rawW w = .ok (decodeTick (tickIdField rawW w)) := by
  simp [decode, op]

theorem decode_of_op_four {rawW w : Nat} (op : opField rawW w = 4) : decode rawW w = .ok .reservedOp4 := by
  simp [decode, op]

theorem decode_of_op_five {rawW w : Nat} (op : opField rawW w = 5) : decode rawW w = .ok .reservedOp5 := by
  simp [decode, op]

theorem decode_of_op_six {rawW w : Nat} (op : opField rawW w = 6) : decode rawW w = .ok .reservedOp6 := by
  simp [decode, op]

theorem decode_of_op_seven {rawW w : Nat} (op : opField rawW w = 7) : decode rawW w = .ok .reservedOp7 := by
  simp [decode, op]

/-! ### The upper bits of a word as `op` and `tick_id` (30_encoding.md R82) -/

theorem opField_eq_div_four (rawW w : Nat) : opField rawW w = w / 2 ^ (rawW + 2) / 4 := by
  rw [opField, Nat.div_div_eq_div_mul, show rawW + 4 = rawW + 2 + 2 from rfl, Nat.pow_add _ (rawW + 2) 2]

theorem tickIdField_eq_mod_four (rawW w : Nat) : tickIdField rawW w = w / 2 ^ (rawW + 2) % 4 := by
  rw [tickIdField, bitSlice, show rawW + 3 + 1 - (rawW + 2) = 2 by omega, show 2 ^ 2 = 4 from rfl]

/-- The words of TICK (R84). -/
theorem decode_of_tick_bits {rawW w tickId : Nat} (bits : w / 2 ^ (rawW + 2) = 12 + tickId) (fits : tickId < 4) :
    decode rawW w = .ok (decodeTick tickId) := by
  have op : opField rawW w = 3 := by
    rw [opField_eq_div_four, bits]
    omega
  have id : tickIdField rawW w = tickId := by
    rw [tickIdField_eq_mod_four, bits]
    omega
  rw [decode_of_op_three op, id]

/-! ### The meanings: an operation without effect is `State.accept` and no more (40_operations.md R111) -/

theorem exec_nop (s : State) : exec .nop s = .next s.accept := rfl

theorem exec_reservedOp4 (s : State) : exec .reservedOp4 s = .next s.accept := rfl

theorem exec_reservedOp5 (s : State) : exec .reservedOp5 s = .next s.accept := rfl

theorem exec_reservedOp6 (s : State) : exec .reservedOp6 s = .next s.accept := rfl

theorem exec_reservedOp7 (s : State) : exec .reservedOp7 s = .next s.accept := rfl

theorem exec_tickReserved2 (s : State) : exec .tickReserved2 s = .next s.accept := rfl

theorem exec_tickReserved3 (s : State) : exec .tickReserved3 s = .next s.accept := rfl

theorem exec_poll_of_settling {s : State} (rawCount : Nat) (rawDir btnPin : Bool) (settling : s.settling = true) :
    exec (.poll rawCount rawDir btnPin) s = .next s.accept :=
  if_pos settling

theorem exec_delayDone_of_not_settling {s : State} (ready : s.settling = false) :
    exec .delayDone s = .next s.accept :=
  if_neg (ne_true_of_eq_false ready)

theorem exec_tickHeartbeat (s : State) : exec .tickHeartbeat s = .next { s.accept with hbLed := !s.hbLed } := rfl

theorem exec_tickBlink (s : State) : exec .tickBlink s = .next s.accept.blinkStep := rfl

/-- The edge of an idle cycle (R122). -/
theorem State.clockEdge_of_idle (s : State) {c : Cycle} (rst : c.rst = false) (opValid : c.opValid = false) :
    s.clockEdge c = .next s.idleEdge := by
  unfold State.clockEdge
  rw [if_neg (ne_true_of_eq_false rst), if_neg (ne_true_of_eq_false opValid)]

/-! ### The statements -/

/-- Settles O3: neither the reset branch nor the operation branch of the edge is taken. -/
theorem idleCycleChangesNothing : Obligations.IdleCycleChangesNothing := by
  unfold Obligations.IdleCycleChangesNothing
  exact fun s _ rst opValid => s.clockEdge_of_idle rst opValid

/-- Settles O10, by the decoder's equation for `op = 0` and the meaning of NOP. -/
theorem nopHasNoEffect : Obligations.NopHasNoEffect := by
  unfold Obligations.NopHasNoEffect
  exact ⟨fun _ _ op => decode_of_op_zero op, exec_nop⟩

/-- Settles O11: each code by the decoder's equation for it and the meaning of its operation. -/
theorem reservedCodesHaveNoEffect : Obligations.ReservedCodesHaveNoEffect := by
  unfold Obligations.ReservedCodesHaveNoEffect
  constructor
  · exact fun _ _ => ⟨decode_of_op_four, decode_of_op_five, decode_of_op_six, decode_of_op_seven⟩
  · exact fun s => ⟨exec_reservedOp4 s, exec_reservedOp5 s, exec_reservedOp6 s, exec_reservedOp7 s⟩

/-- Settles O12: the upper bits are `12 + 2` and `12 + 3`. -/
theorem reservedTicksHaveNoEffect : Obligations.ReservedTicksHaveNoEffect := by
  unfold Obligations.ReservedTicksHaveNoEffect
  constructor
  · exact fun _ _ => ⟨fun bits => decode_of_tick_bits (tickId := 2) bits (by decide),
      fun bits => decode_of_tick_bits (tickId := 3) bits (by decide)⟩
  · exact fun s => ⟨exec_tickReserved2 s, exec_tickReserved3 s⟩

/-- Settles O13: `settling` is tested before the operands are looked at. -/
theorem pollWhileSettlingHasNoEffect : Obligations.PollWhileSettlingHasNoEffect := by
  unfold Obligations.PollWhileSettlingHasNoEffect
  exact fun _ => exec_poll_of_settling

/-- Settles O14: DEBOUNCE_COMPLETE runs only in a settling block. -/
theorem delayDoneWhileNotSettlingHasNoEffect : Obligations.DelayDoneWhileNotSettlingHasNoEffect := by
  unfold Obligations.DelayDoneWhileNotSettlingHasNoEffect
  exact fun _ => exec_delayDone_of_not_settling

/-- Settles O24: the upper bits are `12 + 0`. -/
theorem heartbeatTogglesTheIndicator : Obligations.HeartbeatTogglesTheIndicator := by
  unfold Obligations.HeartbeatTogglesTheIndicator
  exact ⟨fun _ _ bits => decode_of_tick_bits (tickId := 0) bits (by decide), exec_tickHeartbeat⟩

/-- Settles O25: the upper bits are `12 + 1`; the meaning is BLINK_STEP, whose two branches are the two clauses. -/
theorem blinkTickPlaysOneStep : Obligations.BlinkTickPlaysOneStep := by
  unfold Obligations.BlinkTickPlaysOneStep
  refine ⟨fun _ _ bits => decode_of_tick_bits (tickId := 1) bits (by decide), fun s => ⟨?_, ?_⟩⟩
  · intro armed
    rw [exec_tickBlink, State.blinkStep_of_armed (s := s.accept) armed, blinkLevel_eq]
    rfl
  · intro idle
    rw [exec_tickBlink, State.blinkStep_of_idle (s := s.accept) idle]
    rfl

end Sys2Proof.Machine
end

section
/-! PROOFS. The effective POLL (41_encoder_normalizer.md R131 to R136, R142). Its next state is NORMALIZE, in
the branch that the candidate and `logical_value` select, with the button sampled on top: NORMALIZE leaves alone what
DEBOUNCE_SAMPLE starts from. -/

namespace Sys2Proof.Machine

/-! ### The ends of the candidate (R131) -/

theorem candidate_le_n {c : Config} {rawCount : Nat} (inside : rawCount ≤ c.maxCount) :
    candidate rawCount ≤ c.n := by
  rw [maxCount_eq] at inside
  rw [candidate_eq]
  omega

theorem candidate_eq_n_iff {c : Config} {rawCount : Nat} (inside : rawCount ≤ c.maxCount) :
    candidate rawCount = c.n ↔ rawCount = c.maxCount := by
  rw [maxCount_eq] at *
  rw [candidate_eq]
  omega

theorem candidate_eq_zero_iff (rawCount : Nat) : candidate rawCount = 0 ↔ rawCount < 4 := by
  rw [candidate_eq]
  omega

/-! ### When a POLL is effective (40_operations.md R113) -/

theorem exec_poll_of_inside {s : State} {rawCount : Nat} (rawDir btnPin : Bool) (ready : s.settling = false)
    (inside : rawCount ≤ s.cfg.maxCount) :
    exec (.poll rawCount rawDir btnPin) s
      = .next ((s.accept.normalize rawCount rawDir).debounceSample btnPin) :=
  (if_neg (ne_true_of_eq_false ready)).trans (if_pos (decide_eq_true inside))

theorem exec_poll_of_outside {s : State} {rawCount : Nat} (rawDir btnPin : Bool) (ready : s.settling = false)
    (outside : s.cfg.maxCount < rawCount) :
    exec (.poll rawCount rawDir btnPin) s = .refused .rawCountOutOfRange :=
  (if_neg (ne_true_of_eq_false ready)).trans
    (if_neg (ne_true_of_eq_false (decide_eq_false (Nat.not_le.mpr outside))))

/-! ### NORMALIZE, one equation per branch (R138) -/

theorem State.normalize_of_low {s : State} {rawCount : Nat} (rawDir : Bool) (cand : candidate rawCount = s.cfg.n)
    (value : s.logicalValue = 0) : s.normalize rawCount rawDir = s.reseed 0 .low := by
  obtain ⟨-, -, eq⟩ | ⟨candZero, -, -⟩ | ⟨notLow, -, -⟩ := s.normalize_cases rawCount rawDir
  · exact eq
  · have two := s.cfg.two_le_n
    omega
  · exact absurd ⟨cand, value⟩ notLow

theorem State.normalize_of_high {s : State} {rawCount : Nat} (rawDir : Bool) (cand : candidate rawCount = 0)
    (value : s.logicalValue = s.cfg.n) : s.normalize rawCount rawDir = s.reseed s.cfg.maxCount .high := by
  obtain ⟨candN, -, -⟩ | ⟨-, -, eq⟩ | ⟨-, notHigh, -⟩ := s.normalize_cases rawCount rawDir
  · have two := s.cfg.two_le_n
    omega
  · exact eq
  · exact absurd ⟨cand, value⟩ notHigh

theorem State.normalize_of_normal {s : State} {rawCount : Nat} (rawDir : Bool)
    (notLow : ¬ (candidate rawCount = s.cfg.n ∧ s.logicalValue = 0))
    (notHigh : ¬ (candidate rawCount = 0 ∧ s.logicalValue = s.cfg.n)) :
    s.normalize rawCount rawDir = (s.acceptValue rawCount).acceptDirection rawDir := by
  obtain ⟨cand, value, -⟩ | ⟨cand, value, -⟩ | ⟨-, -, eq⟩ := s.normalize_cases rawCount rawDir
  · exact absurd ⟨cand, value⟩ notLow
  · exact absurd ⟨cand, value⟩ notHigh
  · exact eq

/-- NORMALIZE leaves alone what DEBOUNCE_SAMPLE starts from (R113). -/
theorem State.normalize_keeps_button (s : State) (rawCount : Nat) (rawDir : Bool) :
    (s.normalize rawCount rawDir).settling = s.settling
      ∧ (s.normalize rawCount rawDir).isPressed = s.isPressed
      ∧ (s.normalize rawCount rawDir).out.delayReq = s.out.delayReq := by
  obtain ⟨-, -, eq⟩ | ⟨-, -, eq⟩ | ⟨-, -, eq⟩ := s.normalize_cases rawCount rawDir
  · rw [eq]
    exact ⟨rfl, rfl, rfl⟩
  · rw [eq]
    exact ⟨rfl, rfl, rfl⟩
  · rw [eq, State.acceptDirection_eq, State.acceptValue_eq]
    exact ⟨rfl, rfl, rfl⟩

/-! ### Event outputs that start a step idle (40_operations.md R111) -/

/-- The normal branch of NORMALIZE at the start of a step. -/
theorem State.accept_acceptValue_acceptDirection (s : State) (rawCount : Nat) (rawDir : Bool) :
    (s.accept.acceptValue rawCount).acceptDirection rawDir =
      { s with
        rawPosition := rawCount
        logicalValue := candidate rawCount
        direction := decodeDirection rawDir
        out := { Out.idle with
          valueChanged := decide (candidate rawCount ≠ s.logicalValue)
          dirChanged := decide (decodeDirection rawDir ≠ s.direction)
          pwm := if candidate rawCount = s.logicalValue then none
            else some ⟨s.activeChannel, candidate rawCount, .normalizer⟩ }
        levels := if candidate rawCount = s.logicalValue then s.levels
          else s.levels.set s.activeChannel (candidate rawCount) } := by
  simp only [State.acceptDirection_eq, State.acceptValue_eq, State.accept, Out.idle, ne_eq, decide_not,
    Bool.if_false_left, Bool.and_true]

/-- An effective POLL in range is NORMALIZE with the button sampled on top (R113, 42_button_debouncer.md R152). -/
theorem exec_poll_eq_normalize_sampled {s : State} {rawCount : Nat} (rawDir btnPin : Bool)
    (ready : s.settling = false) (inside : rawCount ≤ s.cfg.maxCount) :
    exec (.poll rawCount rawDir btnPin) s = .next
      { s.accept.normalize rawCount rawDir with
        lastObservedRaw := !btnPin
        settling := decide ((!btnPin) ≠ s.isPressed)
        out := { (s.accept.normalize rawCount rawDir).out with
          delayReq := decide ((!btnPin) ≠ s.isPressed) } } := by
  obtain ⟨settling, isPressed, delayReq⟩ := s.accept.normalize_keeps_button rawCount rawDir
  simp only [State.accept_settling, ready, State.accept_isPressed, State.accept_out, Out.idle]
    at settling isPressed delayReq
  simp only [exec_poll_of_inside rawDir btnPin ready inside, State.debounceSample_eq, pressedNow_eq, settling,
    isPressed, delayReq, ne_eq, decide_not, Bool.if_false_left, Bool.and_true]

/-! ### The statements -/

/-- Settles O15, by the two ends of the candidate. -/
theorem candidateIsFloorDivision : Obligations.CandidateIsFloorDivision := by
  unfold Obligations.CandidateIsFloorDivision
  intro c rawCount
  refine ⟨candidate_eq rawCount, fun inside => ⟨candidate_le_n inside, candidate_eq_n_iff inside, ?_⟩⟩
  rw [candidate_eq_zero_iff]
  omega

/-- Settles O16: NORMALIZE re-seeds to 0, then the button is sampled. -/
theorem pollWrapLowReseedsToZero : Obligations.PollWrapLowReseedsToZero := by
  unfold Obligations.PollWrapLowReseedsToZero
  intro s rawCount rawDir btnPin ready inside cand value
  rw [exec_poll_eq_normalize_sampled rawDir btnPin ready inside,
    State.normalize_of_low (s := s.accept) rawDir cand value]
  rfl

/-- Settles O17: NORMALIZE re-seeds to `MAX_COUNT`, then the button is sampled. -/
theorem pollWrapHighReseedsToMaximum : Obligations.PollWrapHighReseedsToMaximum := by
  unfold Obligations.PollWrapHighReseedsToMaximum
  intro s rawCount rawDir btnPin ready inside cand value
  rw [exec_poll_eq_normalize_sampled rawDir btnPin ready inside,
    State.normalize_of_high (s := s.accept) rawDir cand value]
  rfl

/-- Settles O18: NORMALIZE accepts the candidate and the direction, then the button is sampled. -/
theorem pollNormalBranchAcceptsTheCandidate : Obligations.PollNormalBranchAcceptsTheCandidate := by
  unfold Obligations.PollNormalBranchAcceptsTheCandidate
  intro s rawCount rawDir btnPin ready inside notLow notHigh
  rw [exec_poll_eq_normalize_sampled rawDir btnPin ready inside,
    State.normalize_of_normal (s := s.accept) rawDir notLow notHigh, State.accept_acceptValue_acceptDirection]
  rfl

/-- Settles O20: the range is tested before NORMALIZE runs. -/
theorem pollOutOfRangeIsRefused : Obligations.PollOutOfRangeIsRefused := by
  unfold Obligations.PollOutOfRangeIsRefused
  exact fun _ _ => exec_poll_of_outside

end Sys2Proof.Machine
end

section
/-! PROOFS. The Button Debouncer (42_button_debouncer.md R151 to R155): the sample that an effective POLL takes and the
completion that ends a settle. NORMALIZE runs in the same POLL and stays clear of the edge output, the channel,
the blink sequencer and the heartbeat. -/

namespace Sys2Proof.Machine

/-! ### What NORMALIZE leaves unchanged (10_state.md R20) -/

theorem State.normalize_keeps_edge_channel_blink_heartbeat (s : State) (rawCount : Nat) (rawDir : Bool) :
    (s.normalize rawCount rawDir).out.edge = s.out.edge
      ∧ (s.normalize rawCount rawDir).activeChannel = s.activeChannel
      ∧ (s.normalize rawCount rawDir).armed = s.armed
      ∧ (s.normalize rawCount rawDir).step = s.step
      ∧ (s.normalize rawCount rawDir).targetChannel = s.targetChannel
      ∧ (s.normalize rawCount rawDir).hbLed = s.hbLed := by
  obtain ⟨-, -, eq⟩ | ⟨-, -, eq⟩ | ⟨-, -, eq⟩ := s.normalize_cases rawCount rawDir
  · simp [eq]
  · simp [eq]
  · simp [eq, State.acceptDirection_eq, State.acceptValue_eq]

/-! ### DELAY_DONE while settling (40_operations.md R115) -/

theorem exec_delayDone_of_settling {s : State} (settling : s.settling = true) :
    exec .delayDone s = .next s.accept.debounceComplete :=
  if_pos settling

/-! ### The statements -/

/-- Settles O19: the sample is written on top of a NORMALIZE that leaves the other registers of the statement alone. -/
theorem pollSamplesTheButton : Obligations.PollSamplesTheButton := by
  unfold Obligations.PollSamplesTheButton
  intro s rawCount rawDir btnPin ready inside
  obtain ⟨-, pressed, -⟩ := s.accept.normalize_keeps_button rawCount rawDir
  obtain ⟨edge, others⟩ := s.accept.normalize_keeps_edge_channel_blink_heartbeat rawCount rawDir
  exact ⟨_, exec_poll_eq_normalize_sampled rawDir btnPin ready inside,
    rfl, decide_eq_true_iff, decide_eq_true_iff, rfl, edge, pressed, others⟩

/-- Settles O23: the reading that started the settle selects the branch of DEBOUNCE_COMPLETE. -/
theorem delayDoneReportsTheEdge : Obligations.DelayDoneReportsTheEdge := by
  unfold Obligations.DelayDoneReportsTheEdge
  intro s settling
  rw [exec_delayDone_of_settling settling]
  constructor
  · intro pressed
    rw [State.debounceComplete_of_pressed (s := s.accept) pressed]
    rfl
  · intro released
    rw [State.debounceComplete_of_released (s := s.accept) released]
    rfl

end Sys2Proof.Machine
end

section
/-! PROOFS. The Channel Selector (43_channel_selector.md R171): the cycle of the channels in terms of their 2-bit codes. -/

namespace Sys2Proof.Machine

/-- The 2-bit increment that discards the carry: it wraps at CH4 only. -/
theorem Channel.code_next (c : Channel) : c.next.code = (c.code + 1) % 4 := by
  cases c with
  | ch1 | ch2 | ch3 | ch4 => rfl

/-- Settles O22: the four equations of the successor, and its effect on the codes. -/
theorem channelCycleIsIncrementModFour : Obligations.ChannelCycleIsIncrementModFour := by
  unfold Obligations.ChannelCycleIsIncrementModFour
  exact ⟨rfl, rfl, rfl, rfl, Channel.code_next⟩

end Sys2Proof.Machine
end

section
/-! PROOFS. Totality (60_exceptions.md R210): every operation but POLL completes in every state; a POLL tests its
operand, and can be refused, only in a block that is not settling. -/

namespace Sys2Proof.Machine

theorem exec_delayDone_completes (s : State) : ∃ t, exec .delayDone s = .next t := by
  cases settling : s.settling with
  | true => exact ⟨_, exec_delayDone_of_settling settling⟩
  | false => exact ⟨_, exec_delayDone_of_not_settling settling⟩

/-- The three answers of a POLL: without effect (R114), effective in range (R113), refused (R142). -/
theorem exec_poll_completes_or_is_out_of_range (s : State) (rawCount : Nat) (rawDir btnPin : Bool) :
    (∃ t, exec (.poll rawCount rawDir btnPin) s = .next t)
    ∨ (s.settling = false ∧ s.cfg.maxCount < rawCount
        ∧ exec (.poll rawCount rawDir btnPin) s = .refused .rawCountOutOfRange) := by
  cases settling : s.settling with
  | true => exact .inl ⟨_, exec_poll_of_settling rawCount rawDir btnPin settling⟩
  | false =>
    obtain outside | inside := Nat.lt_or_ge s.cfg.maxCount rawCount
    · exact .inr ⟨rfl, outside, exec_poll_of_outside rawDir btnPin settling outside⟩
    · exact .inl ⟨_, exec_poll_of_inside rawDir btnPin settling inside⟩

/-- Settles O27, by the operations: only POLL has an answer that is not a next state. -/
theorem everyOperationCompletesOrIsOutOfRange : Obligations.EveryOperationCompletesOrIsOutOfRange := by
  unfold Obligations.EveryOperationCompletesOrIsOutOfRange
  intro i s
  cases i with
  | poll rawCount rawDir btnPin =>
    obtain completes | refused := exec_poll_completes_or_is_out_of_range s rawCount rawDir btnPin
    · exact .inl completes
    · exact .inr ⟨rawCount, rawDir, btnPin, rfl, refused⟩
  | delayDone => exact .inl (exec_delayDone_completes s)
  | nop => exact .inl ⟨_, exec_nop s⟩
  | tickHeartbeat => exact .inl ⟨_, exec_tickHeartbeat s⟩
  | tickBlink => exact .inl ⟨_, exec_tickBlink s⟩
  | tickReserved2 => exact .inl ⟨_, exec_tickReserved2 s⟩
  | tickReserved3 => exact .inl ⟨_, exec_tickReserved3 s⟩
  | reservedOp4 => exact .inl ⟨_, exec_reservedOp4 s⟩
  | reservedOp5 => exact .inl ⟨_, exec_reservedOp5 s⟩
  | reservedOp6 => exact .inl ⟨_, exec_reservedOp6 s⟩
  | reservedOp7 => exact .inl ⟨_, exec_reservedOp7 s⟩

end Sys2Proof.Machine
end

section
/-! PROOFS. The reset edge (70_reset_and_hazards.md R240 to R242): `rst = 1` wins over a presented operation, and what
the edge leaves of the old state is the parameters, the levels and the samples to come. -/

namespace Sys2Proof.Machine

/-- Reset has priority (R240): neither `op_valid` nor the word is looked at. -/
theorem State.clockEdge_of_rst (s : State) {c : Cycle} (rst : c.rst = true) :
    s.clockEdge c = .next s.resetEdge :=
  if_pos rst

/-- The frame of a reset edge (R241, R242): every field that is not a parameter, a level or a sample is overwritten. -/
theorem State.resetEdge_eq (s : State) :
    s.resetEdge =
      { s with
        rawPosition := 0, logicalValue := 0, direction := .cw, isPressed := false,
        lastObservedRaw := false, settling := false, activeChannel := .ch1, armed := false,
        step := 0, targetChannel := .ch1, hbLed := false, out := Out.idle } := rfl

/-- Settles O2: reset has priority, and the reset edge overwrites every register and the event outputs. -/
theorem resetEdgeResetsEveryRegister : Obligations.ResetEdgeResetsEveryRegister := by
  unfold Obligations.ResetEdgeResetsEveryRegister
  intro s c rst
  rw [s.clockEdge_of_rst rst, s.resetEdge_eq]

end Sys2Proof.Machine
end

section
/-! PROOFS. The operation word (30_encoding.md R82 to R86). The bits above `raw_count` are the number `w / 2 ^
RAW_W`, and each of the four upper fields is a part of it. -/

namespace Sys2Proof.Machine

/-! ### The decoder: the values of `op` that are still without an equation (R83, R86) -/

theorem decode_of_op_one {rawW w : Nat} (op : opField rawW w = 1) :
    decode rawW w = .ok (.poll (rawCountField rawW w) (rawDirField rawW w) (btnPinField rawW w)) := by
  simp [decode, op]

theorem decode_of_op_two {rawW w : Nat} (op : opField rawW w = 2) : decode rawW w = .ok .delayDone := by
  simp [decode, op]

theorem decode_of_eight_le_op {rawW w : Nat} (op : 8 ≤ opField rawW w) : decode rawW w = .error .wordTooWide := by
  obtain ⟨k, eq⟩ := Nat.exists_eq_add_of_le' op
  unfold decode
  rw [eq]
  rfl

/-- A TICK word decodes to one of the four ticks (R84). -/
theorem decodeTick_cases (tickId : Nat) :
    decodeTick tickId = .tickHeartbeat ∨ decodeTick tickId = .tickBlink ∨ decodeTick tickId = .tickReserved2
      ∨ decodeTick tickId = .tickReserved3 := by
  unfold decodeTick
  split <;> simp

/-- Only `op = 1` decodes to a POLL. -/
theorem decode_eq_poll_iff {rawW w rawCount : Nat} {rawDir btnPin : Bool} :
    decode rawW w = .ok (.poll rawCount rawDir btnPin) ↔
      opField rawW w = 1 ∧ rawCountField rawW w = rawCount ∧ rawDirField rawW w = rawDir
        ∧ btnPinField rawW w = btnPin := by
  have tick := decodeTick_cases (tickIdField rawW w)
  unfold decode
  split
  case h_4 op => rcases tick with tick | tick | tick | tick <;> simp [tick, op]
  all_goals simp_all

/-! ### The fields as parts of `w / 2 ^ RAW_W` (R82) -/

theorem opField_eq (rawW w : Nat) : opField rawW w = w / 2 ^ rawW / 16 := by
  rw [opField, Nat.pow_add, Nat.div_div_eq_div_mul]

theorem tickIdField_eq (rawW w : Nat) : tickIdField rawW w = w / 2 ^ rawW / 4 % 4 := by
  rw [tickIdField_eq_mod_four, Nat.pow_add, Nat.div_div_eq_div_mul]

theorem tickIdField_lt_four (rawW w : Nat) : tickIdField rawW w < 4 := by
  rw [tickIdField_eq_mod_four]
  exact Nat.mod_lt _ (by decide)

theorem btnPinField_eq (rawW w : Nat) : btnPinField rawW w = decide (w / 2 ^ rawW / 2 % 2 = 1) := by
  rw [btnPinField, bitAt, bitSlice, Nat.add_sub_cancel_left, Nat.pow_succ 2 rawW, Nat.div_div_eq_div_mul, Nat.pow_one]

theorem rawDirField_eq (rawW w : Nat) : rawDirField rawW w = decide (w / 2 ^ rawW % 2 = 1) := by
  rw [rawDirField, bitAt, bitSlice, Nat.add_sub_cancel_left, Nat.pow_one]

/-! ### Packing and unpacking (R82) -/

theorem bitOf_le_one (b : Bool) : bitOf b ≤ 1 := by
  cases b <;> decide

theorem decide_bitOf_eq_one (b : Bool) : decide (bitOf b = 1) = b := by
  cases b <;> rfl

theorem bitOf_decide_mod_two_eq_one (k : Nat) : bitOf (decide (k % 2 = 1)) = k % 2 := by
  obtain even | odd := Nat.mod_two_eq_zero_or_one k
  · rw [even]; rfl
  · rw [odd]; rfl

theorem packWord_eq (rawW op tickId : Nat) (btnPin rawDir : Bool) (rawCount : Nat) :
    packWord rawW op tickId btnPin rawDir rawCount
      = 2 ^ rawW * (op * 16 + tickId * 4 + bitOf btnPin * 2 + bitOf rawDir) + rawCount := by
  unfold packWord
  ring

/-- Packing the fields of a number gives the number back. -/
theorem packWord_fields (rawW w : Nat) :
    packWord rawW (opField rawW w) (tickIdField rawW w) (btnPinField rawW w) (rawDirField rawW w)
      (rawCountField rawW w) = w := by
  have upper : w / 2 ^ rawW / 16 * 16 + w / 2 ^ rawW / 4 % 4 * 4 + w / 2 ^ rawW / 2 % 2 * 2 + w / 2 ^ rawW % 2
      = w / 2 ^ rawW := by
    omega
  rw [packWord_eq, opField_eq, tickIdField_eq, btnPinField_eq, rawDirField_eq, bitOf_decide_mod_two_eq_one,
    bitOf_decide_mod_two_eq_one, upper, rawCountField, Nat.div_add_mod]

section
variable {rawW op tickId : Nat} {btnPin rawDir : Bool} {rawCount : Nat}

theorem packWord_div (fits : rawCount < 2 ^ rawW) :
    packWord rawW op tickId btnPin rawDir rawCount / 2 ^ rawW
      = op * 16 + tickId * 4 + bitOf btnPin * 2 + bitOf rawDir := by
  rw [packWord_eq, Nat.mul_add_div (Nat.two_pow_pos rawW), Nat.div_eq_of_lt fits, Nat.add_zero]

theorem opField_packWord (tick : tickId < 4) (fits : rawCount < 2 ^ rawW) :
    opField rawW (packWord rawW op tickId btnPin rawDir rawCount) = op := by
  have btn := bitOf_le_one btnPin
  have dir := bitOf_le_one rawDir
  rw [opField_eq, packWord_div fits]
  omega

theorem tickIdField_packWord (tick : tickId < 4) (fits : rawCount < 2 ^ rawW) :
    tickIdField rawW (packWord rawW op tickId btnPin rawDir rawCount) = tickId := by
  have btn := bitOf_le_one btnPin
  have dir := bitOf_le_one rawDir
  rw [tickIdField_eq, packWord_div fits]
  omega

theorem btnPinField_packWord (fits : rawCount < 2 ^ rawW) :
    btnPinField rawW (packWord rawW op tickId btnPin rawDir rawCount) = btnPin := by
  have btn := bitOf_le_one btnPin
  have dir := bitOf_le_one rawDir
  have bit : (op * 16 + tickId * 4 + bitOf btnPin * 2 + bitOf rawDir) / 2 % 2 = bitOf btnPin := by
    omega
  rw [btnPinField_eq, packWord_div fits, bit, decide_bitOf_eq_one]

theorem rawDirField_packWord (fits : rawCount < 2 ^ rawW) :
    rawDirField rawW (packWord rawW op tickId btnPin rawDir rawCount) = rawDir := by
  have dir := bitOf_le_one rawDir
  have bit : (op * 16 + tickId * 4 + bitOf btnPin * 2 + bitOf rawDir) % 2 = bitOf rawDir := by
    omega
  rw [rawDirField_eq, packWord_div fits, bit, decide_bitOf_eq_one]

theorem rawCountField_packWord (fits : rawCount < 2 ^ rawW) :
    rawCountField rawW (packWord rawW op tickId btnPin rawDir rawCount) = rawCount := by
  rw [rawCountField, packWord_eq, Nat.mul_add_mod, Nat.mod_eq_of_lt fits]

/-- A word packed with `op = 1` is a POLL with the packed operands, whatever its `tick_id` (R85). -/
theorem decode_packWord_poll (tick : tickId < 4) (fits : rawCount < 2 ^ rawW) :
    decode rawW (packWord rawW 1 tickId btnPin rawDir rawCount) = .ok (.poll rawCount rawDir btnPin) :=
  decode_eq_poll_iff.mpr ⟨opField_packWord tick fits, rawCountField_packWord fits, rawDirField_packWord fits,
    btnPinField_packWord fits⟩

/-- A word packed with `op = 3` is the TICK of its `tick_id`. -/
theorem decode_packWord_tick (tick : tickId < 4) (fits : rawCount < 2 ^ rawW) :
    decode rawW (packWord rawW 3 tickId btnPin rawDir rawCount) = .ok (decodeTick tickId) := by
  rw [decode_of_op_three (opField_packWord tick fits), tickIdField_packWord tick fits]

end

/-! ### The statements -/

/-- The canonical word of every well-formed operation decodes to it. -/
theorem decode_encode {rawW : Nat} {i : Instr} (wf : i.wellFormed rawW = true) :
    decode rawW (encode rawW i) = .ok i := by
  have zero_fits : 0 < 2 ^ rawW := Nat.two_pow_pos rawW
  have op_kept (op : Nat) : opField rawW (packWord rawW op 0 false false 0) = op :=
    opField_packWord (by decide) zero_fits
  cases i with
  | nop => exact decode_of_op_zero (op_kept 0)
  | poll rawCount rawDir btnPin => exact decode_packWord_poll (by decide) (of_decide_eq_true wf)
  | delayDone => exact decode_of_op_two (op_kept 2)
  | tickHeartbeat => exact decode_packWord_tick (tickId := 0) (by decide) zero_fits
  | tickBlink => exact decode_packWord_tick (tickId := 1) (by decide) zero_fits
  | tickReserved2 => exact decode_packWord_tick (tickId := 2) (by decide) zero_fits
  | tickReserved3 => exact decode_packWord_tick (tickId := 3) (by decide) zero_fits
  | reservedOp4 => exact decode_of_op_four (op_kept 4)
  | reservedOp5 => exact decode_of_op_five (op_kept 5)
  | reservedOp6 => exact decode_of_op_six (op_kept 6)
  | reservedOp7 => exact decode_of_op_seven (op_kept 7)

/-- Settles O6: each field of a packed word is the value packed into it, and the decoder reads the fields that the
encoder wrote. -/
theorem decodeEncodeRoundTrip : Obligations.DecodeEncodeRoundTrip := by
  unfold Obligations.DecodeEncodeRoundTrip
  exact fun _ _ => decode_encode

/-- The number fits the ports exactly when its `op` has three bits. -/
theorem opField_lt_eight_iff (rawW w : Nat) : opField rawW w < 8 ↔ w < 2 ^ (rawW + 7) := by
  rw [opField, Nat.div_lt_iff_lt_mul (Nat.two_pow_pos _), show 2 ^ (rawW + 7) = 8 * 2 ^ (rawW + 4) by ring]

/-- Settles O7, by the values of `op`: below 8 each has its operation, from 8 on none. -/
theorem exactlyTheOperationWordsDecode : Obligations.ExactlyTheOperationWordsDecode := by
  unfold Obligations.ExactlyTheOperationWordsDecode
  intro rawW w
  constructor
  · intro fits
    have op_lt := (opField_lt_eight_iff rawW w).mpr fits
    have count_fits : rawCountField rawW w < 2 ^ rawW := Nat.mod_lt w (Nat.two_pow_pos rawW)
    generalize op : opField rawW w = k at op_lt
    interval_cases k
    · exact ⟨_, decode_of_op_zero op, rfl⟩
    · exact ⟨_, decode_of_op_one op, decide_eq_true count_fits⟩
    · exact ⟨_, decode_of_op_two op, rfl⟩
    · refine ⟨_, decode_of_op_three op, ?_⟩
      obtain tick | tick | tick | tick := decodeTick_cases (tickIdField rawW w) <;> rw [tick] <;> rfl
    · exact ⟨_, decode_of_op_four op, rfl⟩
    · exact ⟨_, decode_of_op_five op, rfl⟩
    · exact ⟨_, decode_of_op_six op, rfl⟩
    · exact ⟨_, decode_of_op_seven op, rfl⟩
  · intro wide
    have not_lt := mt (opField_lt_eight_iff rawW w).mp (Nat.not_lt.mpr wide)
    exact decode_of_eight_le_op (Nat.not_lt.mp not_lt)

/-- The decoder reads `tick_id` only under `op = 3` and the three operands only under `op = 1` (R85). -/
theorem decode_congr {rawW w w' : Nat} (op : opField rawW w = opField rawW w')
    (tick : opField rawW w = 3 → tickIdField rawW w = tickIdField rawW w')
    (poll : opField rawW w = 1 → rawCountField rawW w = rawCountField rawW w'
      ∧ rawDirField rawW w = rawDirField rawW w' ∧ btnPinField rawW w = btnPinField rawW w') :
    decode rawW w = decode rawW w' := by
  unfold decode
  rw [← op]
  split
  case h_2 is_poll =>
    obtain ⟨count, dir, btn⟩ := poll is_poll
    rw [count, dir, btn]
  case h_4 is_tick => rw [tick is_tick]
  all_goals rfl

/-- The three operands of a POLL are the lowest `RAW_W + 2` bits. -/
theorem operands_eq_of_low_bits_eq {rawW w w' : Nat} (low : w % 2 ^ (rawW + 2) = w' % 2 ^ (rawW + 2)) :
    rawCountField rawW w = rawCountField rawW w' ∧ rawDirField rawW w = rawDirField rawW w'
      ∧ btnPinField rawW w = btnPinField rawW w' := by
  have count : w % 2 ^ rawW = w' % 2 ^ rawW := by
    have dvd : 2 ^ rawW ∣ 2 ^ (rawW + 2) := Nat.pow_dvd_pow 2 (Nat.le_add_right _ _)
    rw [← Nat.mod_mod_of_dvd w dvd, low, Nat.mod_mod_of_dvd w' dvd]
  have levels : w / 2 ^ rawW % 4 = w' / 2 ^ rawW % 4 := by
    rw [Nat.pow_add] at low
    rw [← Nat.mod_mul_right_div_self, ← Nat.mod_mul_right_div_self]
    exact congrArg (· / 2 ^ rawW) low
  have dir : w / 2 ^ rawW % 2 = w' / 2 ^ rawW % 2 := by omega
  have btn : w / 2 ^ rawW / 2 % 2 = w' / 2 ^ rawW / 2 % 2 := by omega
  rw [rawDirField_eq, rawDirField_eq, btnPinField_eq, btnPinField_eq, dir, btn]
  exact ⟨count, rfl, rfl⟩

/-- Settles O8: `tick_id` is told by the bits from `RAW_W + 2` up, the operands of a POLL by the bits below. -/
theorem ignoredFieldsDoNotMatter : Obligations.IgnoredFieldsDoNotMatter := by
  unfold Obligations.IgnoredFieldsDoNotMatter
  intro rawW w w' op tick poll
  refine decode_congr op (fun is_tick => ?_) (fun is_poll => operands_eq_of_low_bits_eq (poll is_poll))
  rw [tickIdField_eq_mod_four, tick is_tick, tickIdField_eq_mod_four]

/-- Settles O9: a number is the packing of its fields, and packing `op = 1` decodes to a POLL. -/
theorem pollWordFieldPositions : Obligations.PollWordFieldPositions := by
  unfold Obligations.PollWordFieldPositions
  intro rawW w rawCount rawDir btnPin
  have packed (tickId : Nat) : packWord rawW 1 tickId btnPin rawDir rawCount
      = 1 * 2 ^ (rawW + 4) + tickId * 2 ^ (rawW + 2) + (if btnPin then 2 ^ (rawW + 1) else 0)
          + (if rawDir then 2 ^ rawW else 0) + rawCount := by
    simp only [packWord, bitOf, ite_mul, one_mul, zero_mul]
  constructor
  · intro decoded
    obtain ⟨op, rfl, rfl, rfl⟩ := decode_eq_poll_iff.mp decoded
    refine ⟨Nat.mod_lt w (Nat.two_pow_pos rawW), tickIdField rawW w, tickIdField_lt_four rawW w, ?_⟩
    rw [← packed, ← op, packWord_fields]
  · rintro ⟨fits, tickId, tick, rfl⟩
    rw [← packed]
    exact decode_packWord_poll tick fits

/-- Settles O5, by evaluating the decoder on each word. -/
theorem sampleWordsDecode : Obligations.SampleWordsDecode := by
  unfold Obligations.SampleWordsDecode
  exact ⟨rfl, rfl, rfl, rfl, rfl, rfl, rfl, rfl, rfl, rfl⟩

end Sys2Proof.Machine
end

section
/-! PROOFS. The whole next state of every operation that has one, one constructor of `Effect` per branch of a
procedure (40_operations.md). `exec_eq_next_iff` says that these are the next states and no others; the rules over
all operations are case splits over it. -/

namespace Sys2Proof.Machine

/-- The operation is accepted without effect in this state (40_operations.md R112, R114, R116, R120, R121;
44_blink_sequencer.md R188). -/
def State.Ignores (s : State) : Instr → Prop
  | .poll _ _ _ => s.settling = true
  | .delayDone => s.settling = false
  | .tickBlink => s.armed = false
  | .tickHeartbeat => False
  | .nop | .tickReserved2 | .tickReserved3 | .reservedOp4 | .reservedOp5 | .reservedOp6 | .reservedOp7 => True

/-- What an accepted operation does to the state. -/
inductive Effect (s : State) : Instr → State → Prop
  | ignored {i : Instr} (ignores : s.Ignores i) : Effect s i s.accept
  | heartbeat : Effect s .tickHeartbeat { s.accept with hbLed := !s.hbLed }
  | blink (armed : s.armed = true) :
      Effect s .tickBlink
        { s with
          step := s.step + 1
          armed := decide (s.step ≠ 3)
          out := { Out.idle with pwm := some ⟨s.targetChannel, blinkLevel s.cfg s.step, .blink⟩ }
          levels := s.levels.set s.targetChannel (blinkLevel s.cfg s.step) }
  | press (settling : s.settling = true) (reading : s.lastObservedRaw = true) :
      Effect s .delayDone
        { s with
          settling := false
          isPressed := true
          activeChannel := s.activeChannel.next
          rawPosition := 0
          logicalValue := 0
          armed := true
          step := 0
          targetChannel := s.activeChannel
          out := { Out.idle with
            edge := .pressed, ctrLoad := some 0, pwm := some ⟨s.activeChannel, 0, .selector⟩ }
          levels := s.levels.set s.activeChannel 0 }
  | release (settling : s.settling = true) (reading : s.lastObservedRaw = false) :
      Effect s .delayDone
        { s with settling := false, isPressed := false, out := { Out.idle with edge := .released } }
  | wrapLow (rawCount : Nat) (rawDir btnPin : Bool) (ready : s.settling = false)
      (inside : rawCount ≤ s.cfg.maxCount) (cand : candidate rawCount = s.cfg.n) (value : s.logicalValue = 0) :
      Effect s (.poll rawCount rawDir btnPin)
        { s with
          rawPosition := 0
          lastObservedRaw := !btnPin
          settling := decide ((!btnPin) ≠ s.isPressed)
          out := { Out.idle with
            wrapEvent := .low, ctrLoad := some 0, delayReq := decide ((!btnPin) ≠ s.isPressed) } }
  | wrapHigh (rawCount : Nat) (rawDir btnPin : Bool) (ready : s.settling = false)
      (inside : rawCount ≤ s.cfg.maxCount) (cand : candidate rawCount = 0) (value : s.logicalValue = s.cfg.n) :
      Effect s (.poll rawCount rawDir btnPin)
        { s with
          rawPosition := s.cfg.maxCount
          lastObservedRaw := !btnPin
          settling := decide ((!btnPin) ≠ s.isPressed)
          out := { Out.idle with
            wrapEvent := .high, ctrLoad := some s.cfg.maxCount
            delayReq := decide ((!btnPin) ≠ s.isPressed) } }
  | count (rawCount : Nat) (rawDir btnPin : Bool) (ready : s.settling = false)
      (inside : rawCount ≤ s.cfg.maxCount) (notLow : ¬ (candidate rawCount = s.cfg.n ∧ s.logicalValue = 0))
      (notHigh : ¬ (candidate rawCount = 0 ∧ s.logicalValue = s.cfg.n)) :
      Effect s (.poll rawCount rawDir btnPin)
        { s with
          rawPosition := rawCount
          logicalValue := candidate rawCount
          direction := decodeDirection rawDir
          lastObservedRaw := !btnPin
          settling := decide ((!btnPin) ≠ s.isPressed)
          out := { Out.idle with
            valueChanged := decide (candidate rawCount ≠ s.logicalValue)
            dirChanged := decide (decodeDirection rawDir ≠ s.direction)
            pwm := if candidate rawCount = s.logicalValue then none
              else some ⟨s.activeChannel, candidate rawCount, .normalizer⟩
            delayReq := decide ((!btnPin) ≠ s.isPressed) }
          levels := if candidate rawCount = s.logicalValue then s.levels
            else s.levels.set s.activeChannel (candidate rawCount) }

theorem exec_of_ignores {s : State} {i : Instr} (ignores : s.Ignores i) : exec i s = .next s.accept := by
  cases i with
  | poll rawCount rawDir btnPin => exact exec_poll_of_settling rawCount rawDir btnPin ignores
  | delayDone => exact exec_delayDone_of_not_settling ignores
  | tickBlink => rw [exec_tickBlink, State.blinkStep_of_idle (s := s.accept) ignores]
  | tickHeartbeat => exact ignores.elim
  | nop | tickReserved2 | tickReserved3 | reservedOp4 | reservedOp5 | reservedOp6 | reservedOp7 => rfl

/-- An effect is what the operation does. -/
theorem Effect.exec_eq {s t : State} {i : Instr} (effect : Effect s i t) : exec i s = .next t := by
  cases effect with
  | ignored ignores => exact exec_of_ignores ignores
  | heartbeat => exact exec_tickHeartbeat s
  | blink armed => exact (blinkTickPlaysOneStep.2 s).1 armed
  | press settling reading => exact (delayDoneReportsTheEdge s settling).1 reading
  | release settling reading => exact (delayDoneReportsTheEdge s settling).2 reading
  | wrapLow rawCount rawDir btnPin ready inside cand value =>
    exact pollWrapLowReseedsToZero s rawCount rawDir btnPin ready inside cand value
  | wrapHigh rawCount rawDir btnPin ready inside cand value =>
    exact pollWrapHighReseedsToMaximum s rawCount rawDir btnPin ready inside cand value
  | count rawCount rawDir btnPin ready inside notLow notHigh =>
    exact pollNormalBranchAcceptsTheCandidate s rawCount rawDir btnPin ready inside notLow notHigh

/-- An effective POLL in range takes one of the three branches of NORMALIZE. -/
theorem exists_effect_poll {s : State} {rawCount : Nat} (rawDir btnPin : Bool) (ready : s.settling = false)
    (inside : rawCount ≤ s.cfg.maxCount) : ∃ t, Effect s (.poll rawCount rawDir btnPin) t := by
  by_cases low : candidate rawCount = s.cfg.n ∧ s.logicalValue = 0
  · exact ⟨_, .wrapLow rawCount rawDir btnPin ready inside low.1 low.2⟩
  · by_cases high : candidate rawCount = 0 ∧ s.logicalValue = s.cfg.n
    · exact ⟨_, .wrapHigh rawCount rawDir btnPin ready inside high.1 high.2⟩
    · exact ⟨_, .count rawCount rawDir btnPin ready inside low high⟩

/-- An operation has an effect, unless it is an effective POLL out of range. -/
theorem exists_effect_or_out_of_range (s : State) (i : Instr) :
    (∃ t, Effect s i t) ∨ ∃ rawCount rawDir btnPin, i = .poll rawCount rawDir btnPin ∧ s.settling = false
      ∧ s.cfg.maxCount < rawCount := by
  cases i with
  | poll rawCount rawDir btnPin =>
    cases settling : s.settling with
    | true => exact .inl ⟨_, .ignored settling⟩
    | false =>
      obtain outside | inside := Nat.lt_or_ge s.cfg.maxCount rawCount
      · exact .inr ⟨rawCount, rawDir, btnPin, rfl, rfl, outside⟩
      · exact .inl (exists_effect_poll rawDir btnPin settling inside)
  | delayDone =>
    cases settling : s.settling with
    | true =>
      cases reading : s.lastObservedRaw with
      | true => exact .inl ⟨_, .press settling reading⟩
      | false => exact .inl ⟨_, .release settling reading⟩
    | false => exact .inl ⟨_, .ignored settling⟩
  | tickBlink =>
    cases armed : s.armed with
    | true => exact .inl ⟨_, .blink armed⟩
    | false => exact .inl ⟨_, .ignored armed⟩
  | tickHeartbeat => exact .inl ⟨_, .heartbeat⟩
  | nop | tickReserved2 | tickReserved3 | reservedOp4 | reservedOp5 | reservedOp6 | reservedOp7 =>
    exact .inl ⟨_, .ignored trivial⟩

/-- The next states of an operation are its effects. -/
theorem exec_eq_next_iff {i : Instr} {s t : State} : exec i s = .next t ↔ Effect s i t := by
  refine ⟨fun h => ?_, Effect.exec_eq⟩
  obtain ⟨u, effect⟩ | ⟨rawCount, rawDir, btnPin, rfl, ready, outside⟩ := exists_effect_or_out_of_range s i
  · cases h.symm.trans effect.exec_eq
    exact effect
  · rw [exec_poll_of_outside rawDir btnPin ready outside] at h
    cases h

/-- What an operation with a next state did. -/
theorem exec_effect {i : Instr} {s t : State} (h : exec i s = .next t) : Effect s i t :=
  exec_eq_next_iff.mp h

end Sys2Proof.Machine
end

section
/-! PROOFS. The rules that hold of every operation (10_state.md R20, R28, R34; 45_pwm_output_port.md R205;
95_test_vectors.md Q6 to Q8), each a case split over what an operation does. -/

namespace Sys2Proof.Machine

/-! ### NORMALIZE and DEBOUNCE_SAMPLE write apart (40_operations.md R113) -/

/-- Settles O21: DEBOUNCE_SAMPLE leaves alone what selects the branch of NORMALIZE and what that branch reads, so
both orders run the same branch. -/
theorem pollProceduresCommute : Obligations.PollProceduresCommute := by
  unfold Obligations.PollProceduresCommute
  intro s rawCount rawDir btnPin
  have sampled := s.debounceSample_eq btnPin
  obtain ⟨cand, value, eq⟩ | ⟨cand, value, eq⟩ | ⟨notLow, notHigh, eq⟩ := s.normalize_cases rawCount rawDir
  · rw [eq, State.normalize_of_low (s := s.debounceSample btnPin) rawDir (by rw [sampled]; exact cand)
      (by rw [sampled]; exact value), sampled, State.debounceSample_eq]
    rfl
  · rw [eq, State.normalize_of_high (s := s.debounceSample btnPin) rawDir cand (by rw [sampled]; exact value),
      sampled, State.debounceSample_eq]
    rfl
  · rw [eq, State.normalize_of_normal (s := s.debounceSample btnPin) rawDir (by rw [sampled]; exact notLow)
      (by rw [sampled]; exact notHigh), sampled]
    simp only [State.debounceSample_eq, State.acceptDirection_eq, State.acceptValue_eq]

/-! ### Frames -/

/-- Settles O28: in each case the written registers are those of the case, and the others stay. -/
theorem registersChangeOnlyByTheirWriters : Obligations.RegistersChangeOnlyByTheirWriters := by
  unfold Obligations.RegistersChangeOnlyByTheirWriters
  intro i s t h
  cases exec_effect h with
  | ignored | heartbeat | blink | press | release | wrapLow | wrapHigh | count => simp

theorem exec_cfg {i : Instr} {s t : State} (h : exec i s = .next t) : t.cfg = s.cfg := by
  cases exec_effect h <;> rfl

theorem exec_inputs {i : Instr} {s t : State} (h : exec i s = .next t) : t.inputs = s.inputs := by
  cases exec_effect h <;> rfl

/-- What a step's command, if there is one, leaves as the level of a channel that stood at `before`
(45_pwm_output_port.md R205). -/
def Out.levelAfter (o : Out) (ch : Channel) (before : Nat) : Nat :=
  match o.pwm with
  | none => before
  | some cmd => if ch = cmd.channel then cmd.value else before

theorem Out.levelAfter_of_none {o : Out} (silent : o.pwm = none) (ch : Channel) (before : Nat) :
    o.levelAfter ch before = before := by
  simp [Out.levelAfter, silent]

theorem Out.levelAfter_of_some {o : Out} {cmd : PwmCommand} (command : o.pwm = some cmd) (ch : Channel)
    (before : Nat) : o.levelAfter ch before = if ch = cmd.channel then cmd.value else before := by
  simp [Out.levelAfter, command]

/-- Reading the record after a command. -/
theorem Levels.get_set (l : Levels) (ch ch' : Channel) (v : Nat) :
    (l.set ch v).get ch' = if ch' = ch then v else l.get ch' := by
  by_cases same : ch' = ch
  · rw [if_pos same, same, Levels.get_set_same]
  · rw [if_neg same, Levels.get_set_other l v same]

/-- Settles O26: the channel of the command and the others. -/
theorem levelsReadAfterWrite : Obligations.LevelsReadAfterWrite := by
  unfold Obligations.LevelsReadAfterWrite
  exact Levels.get_set

/-- The levels after an operation are what its own command leaves of the old ones. -/
theorem exec_level {i : Instr} {s t : State} (h : exec i s = .next t) (ch : Channel) :
    t.levels.get ch = t.out.levelAfter ch (s.levels.get ch) := by
  cases exec_effect h with
  | ignored | heartbeat | release | wrapLow | wrapHigh => rfl
  | blink | press => exact Levels.get_set _ _ _ _
  | count rawCount rawDir btnPin ready inside notLow notHigh =>
    by_cases same : candidate rawCount = s.logicalValue
    · simp [Out.levelAfter, same]
    · simp [Out.levelAfter, same, Levels.get_set]

/-- Settles O29, by the frame lemmas of the parameters, the samples and the levels. -/
theorem levelsChangeOnlyByTheCommand : Obligations.LevelsChangeOnlyByTheCommand := by
  unfold Obligations.LevelsChangeOnlyByTheCommand
  exact fun i s t h => ⟨exec_cfg h, exec_inputs h, exec_level h⟩

/-! ### Events and commands -/

/-- Settles O30: only the press branch of DELAY_DONE reports a press, and only it writes the channel. -/
theorem channelAdvancesExactlyOnPress : Obligations.ChannelAdvancesExactlyOnPress := by
  unfold Obligations.ChannelAdvancesExactlyOnPress
  intro i s t h
  cases exec_effect h with
  | press => exact .inl ⟨rfl, rfl⟩
  | ignored | heartbeat | blink | release | wrapLow | wrapHigh | count => exact .inr ⟨nofun, rfl⟩

/-- Settles O31: the two wrap branches of NORMALIZE set a wrap event, and nothing else does. -/
theorem wrapStepSuppressesChangeEvents : Obligations.WrapStepSuppressesChangeEvents := by
  unfold Obligations.WrapStepSuppressesChangeEvents
  intro i s t h wraps
  cases exec_effect h with
  | wrapLow => exact ⟨rfl, rfl, rfl, .inl rfl, rfl, rfl⟩
  | wrapHigh => exact ⟨rfl, rfl, rfl, .inr rfl, rfl, rfl⟩
  | ignored | heartbeat | blink | press | release | count => exact absurd rfl wraps

/-- Settles O32: the normal branch of NORMALIZE sets the event and sends its command on the same condition, and no
other branch does either. -/
theorem valueChangedIffNormalizerCommand : Obligations.ValueChangedIffNormalizerCommand := by
  unfold Obligations.ValueChangedIffNormalizerCommand
  intro i s t h
  cases exec_effect h with
  | count rawCount rawDir btnPin ready inside notLow notHigh =>
    by_cases same : candidate rawCount = s.logicalValue
    · simp [same]
    · simp +contextual [same, eq_comm]
  | ignored | heartbeat | blink | press | release | wrapLow | wrapHigh => simp [Out.idle]

/-- What a reported press did: everything it writes but the two cleared dial registers (43_channel_selector.md
R172). -/
theorem exec_pressed {i : Instr} {s t : State} (h : exec i s = .next t) (pressed : t.out.edge = .pressed) :
    t.out.pwm = some ⟨s.activeChannel, 0, .selector⟩ ∧ t.out.ctrLoad = some 0
      ∧ t.activeChannel = s.activeChannel.next ∧ t.armed = true ∧ t.step = 0
      ∧ t.targetChannel = s.activeChannel := by
  cases exec_effect h with
  | press => exact ⟨rfl, rfl, rfl, rfl, rfl, rfl⟩
  | ignored | heartbeat | blink | release | wrapLow | wrapHigh | count => cases pressed

/-- The selector commands only in a step that reports a press. -/
theorem exec_pressed_of_selector {i : Instr} {s t : State} (h : exec i s = .next t) {ch : Channel} {v : Nat}
    (command : t.out.pwm = some ⟨ch, v, .selector⟩) : t.out.edge = .pressed := by
  cases exec_effect h with
  | press => rfl
  | ignored | heartbeat | blink | release | wrapLow | wrapHigh => cases command
  | count => simp [ite_eq_iff] at command

/-- Settles O33: a press commands as SELECTOR, and nothing else does. -/
theorem pressIffSelectorCommand : Obligations.PressIffSelectorCommand := by
  unfold Obligations.PressIffSelectorCommand
  intro i s t h
  refine ⟨⟨fun pressed => ?_, fun command => exec_pressed_of_selector h command.1⟩, fun pressed => ?_⟩
  · obtain ⟨command, load, -⟩ := exec_pressed h pressed
    exact ⟨command, load⟩
  · obtain ⟨-, -, registers⟩ := exec_pressed h pressed
    exact registers

/-! ### What no operation reads -/

/-- An operation that has no effect in a state has none in a state with the same `settling` and `armed`. -/
theorem State.Ignores.of_same {s s' : State} {i : Instr} (ignores : s.Ignores i) (settling : s'.settling = s.settling)
    (armed : s'.armed = s.armed) : s'.Ignores i := by
  cases i with
  | poll rawCount rawDir btnPin => exact settling.trans ignores
  | delayDone => exact settling.trans ignores
  | tickBlink => exact armed.trans ignores
  | tickHeartbeat => exact ignores
  | nop | tickReserved2 | tickReserved3 | reservedOp4 | reservedOp5 | reservedOp6 | reservedOp7 => trivial

/-- Settles O34: the same branch runs on the other state, since its conditions are about registers that agree. -/
theorem unreadStateDoesNotInterfere : Obligations.UnreadStateDoesNotInterfere := by
  unfold Obligations.UnreadStateDoesNotInterfere
  intro i s t rawPosition hbLed out levels h
  cases exec_effect h with
  | ignored ignores => exact ⟨_, Effect.exec_eq (.ignored (ignores.of_same rfl rfl)), rfl⟩
  | heartbeat => exact ⟨_, Effect.exec_eq .heartbeat, rfl⟩
  | blink armed => exact ⟨_, Effect.exec_eq (.blink armed), rfl⟩
  | press settling reading => exact ⟨_, Effect.exec_eq (.press settling reading), rfl⟩
  | release settling reading => exact ⟨_, Effect.exec_eq (.release settling reading), rfl⟩
  | wrapLow rawCount rawDir btnPin ready inside cand value =>
    exact ⟨_, Effect.exec_eq (.wrapLow rawCount rawDir btnPin ready inside cand value), rfl⟩
  | wrapHigh rawCount rawDir btnPin ready inside cand value =>
    exact ⟨_, Effect.exec_eq (.wrapHigh rawCount rawDir btnPin ready inside cand value), rfl⟩
  | count rawCount rawDir btnPin ready inside notLow notHigh =>
    exact ⟨_, Effect.exec_eq (.count rawCount rawDir btnPin ready inside notLow notHigh), rfl⟩

/-- The heartbeat level and the samples to come pass through an operation: a heartbeat tick inverts the level, and
nothing else depends on them or on the outputs of the step before. -/
theorem exec_with_heartbeat_out_inputs {i : Instr} {s t : State} (h : exec i s = .next t) (hbLed : Bool) (out : Out)
    (inputs : List Cycle) :
    exec i { s with hbLed := hbLed, out := out, inputs := inputs }
      = .next { t with hbLed := hbLed ^^ decide (i = .tickHeartbeat), inputs := inputs } := by
  by_cases tick : i = .tickHeartbeat
  · subst tick
    cases (exec_tickHeartbeat s).symm.trans h
    rw [decide_eq_true rfl, Bool.xor_true]
    rfl
  · rw [decide_eq_false tick, Bool.xor_false]
    cases exec_effect h with
    | ignored ignores => exact Effect.exec_eq (.ignored (ignores.of_same rfl rfl))
    | heartbeat => exact absurd rfl tick
    | blink armed => exact Effect.exec_eq (.blink armed)
    | press settling reading => exact Effect.exec_eq (.press settling reading)
    | release settling reading => exact Effect.exec_eq (.release settling reading)
    | wrapLow rawCount rawDir btnPin ready inside cand value =>
      exact Effect.exec_eq (.wrapLow rawCount rawDir btnPin ready inside cand value)
    | wrapHigh rawCount rawDir btnPin ready inside cand value =>
      exact Effect.exec_eq (.wrapHigh rawCount rawDir btnPin ready inside cand value)
    | count rawCount rawDir btnPin ready inside notLow notHigh =>
      exact Effect.exec_eq (.count rawCount rawDir btnPin ready inside notLow notHigh)

/-- `hb_led` after an operation (10_state.md R35). -/
theorem exec_hbLed {i : Instr} {s t : State} (h : exec i s = .next t) :
    t.hbLed = (s.hbLed ^^ decide (i = .tickHeartbeat)) := by
  have same := exec_with_heartbeat_out_inputs h s.hbLed s.out s.inputs
  exact congrArg State.hbLed (Host.Outcome.next.inj (h.symm.trans same))

/-- The outputs of the step before are read by no operation. -/
theorem exec_accept (i : Instr) (s : State) : exec i s.accept = exec i s := by
  cases i <;> rfl

end Sys2Proof.Machine
end

section
/-! PROOFS. The invariant of the whole machine (95_test_vectors.md part 4): one lemma per part says that every
operation keeps it, and a step is an operation, an idle cycle, which is as a NOP, or a reset. -/

namespace Sys2Proof.Machine

/-! ### The parts of the invariant -/

theorem exec_keeps_blinkInv {i : Instr} {s t : State} (inv : s.BlinkInv) (h : exec i s = .next t) : t.BlinkInv := by
  cases exec_effect h with
  | blink armed =>
    intro stopped
    have last : s.step = 3 := by simpa using stopped
    simp [last]
  | press => exact fun _ => rfl
  | ignored | heartbeat | release | wrapLow | wrapHigh | count => exact inv

theorem exec_keeps_buttonInv {i : Instr} {s t : State} (inv : s.ButtonInv) (h : exec i s = .next t) :
    t.ButtonInv := by
  cases exec_effect h with
  | press settling reading | release settling reading => simp [State.ButtonInv, reading]
  | wrapLow | wrapHigh | count => exact decide_eq_true_iff
  | ignored | heartbeat | blink => exact inv

theorem exec_keeps_channelInv {i : Instr} {s t : State} (inv : s.ChannelInv) (h : exec i s = .next t) :
    t.ChannelInv := by
  cases exec_effect h with
  | press => exact fun _ => rfl
  | blink armed => exact fun _ => inv armed
  | ignored | heartbeat | release | wrapLow | wrapHigh | count => exact inv

/-- The counter is loaded with its two ends only (20_memory.md R70). -/
theorem exec_load_legal {i : Instr} {s t : State} (h : exec i s = .next t) {v : Nat}
    (load : t.out.ctrLoad = some v) : v = 0 ∨ v = s.cfg.maxCount := by
  cases exec_effect h with
  | press | wrapLow => exact .inl (Option.some.inj load).symm
  | wrapHigh => exact .inr (Option.some.inj load).symm
  | ignored | heartbeat | blink | release | count => cases load

theorem blinkLevel_full_or_zero (c : Config) (step : StepIndex) :
    blinkLevel c step = c.blinkFull ∨ blinkLevel c step = 0 := by
  rw [blinkLevel_eq]
  split
  · exact .inl rfl
  · exact .inr rfl

/-- Every command carries a value that its source may command (45_pwm_output_port.md R203). -/
theorem exec_command_legal {i : Instr} {s t : State} (h : exec i s = .next t) {cmd : PwmCommand}
    (command : t.out.pwm = some cmd) : cmd.Legal s.cfg := by
  cases exec_effect h with
  | blink armed =>
    cases command
    exact blinkLevel_full_or_zero s.cfg s.step
  | press settling reading =>
    cases command
    rfl
  | count rawCount rawDir btnPin ready inside notLow notHigh =>
    obtain ⟨-, rfl⟩ : candidate rawCount ≠ s.logicalValue
        ∧ PwmCommand.mk s.activeChannel (candidate rawCount) .normalizer = cmd := by
      simpa using command
    exact candidate_le_n inside
  | ignored | heartbeat | release | wrapLow | wrapHigh => cases command

theorem PwmCommand.Legal.value_fits {c : Config} {cmd : PwmCommand} (legal : cmd.Legal c) :
    cmd.value < 2 ^ c.pwmW := by
  obtain ⟨channel, value, src⟩ := cmd
  cases src with
  | normalizer => exact Nat.lt_of_le_of_lt legal c.n_fits
  | selector => exact legal ▸ Nat.two_pow_pos _
  | blink =>
    obtain full | zero := legal
    · exact full ▸ c.blinkFull_fits
    · exact zero ▸ Nat.two_pow_pos _

theorem exec_keeps_portInv {i : Instr} {s t : State} (inv : s.PortInv) (h : exec i s = .next t) : t.PortInv := by
  obtain ⟨-, -, fits⟩ := inv
  unfold State.PortInv
  rw [exec_cfg h]
  refine ⟨fun _ => exec_load_legal h, fun _ => exec_command_legal h, fun ch => ?_⟩
  rw [exec_level h]
  cases command : t.out.pwm with
  | none => exact Out.levelAfter_of_none command ch _ ▸ fits ch
  | some cmd =>
    rw [Out.levelAfter_of_some command]
    split
    · exact (exec_command_legal h command).value_fits
    · exact fits ch

/-! ### The whole machine -/

theorem exec_keeps_inv {i : Instr} {s t : State} (inv : s.Inv) (h : exec i s = .next t) : t.Inv := by
  obtain ⟨encoder, blink, button, channel, port⟩ := inv
  exact ⟨exec_keeps_encoderInv encoder h, exec_keeps_blinkInv blink h, exec_keeps_buttonInv button h,
    exec_keeps_channelInv channel h, exec_keeps_portInv port h⟩

/-- The registers and outputs after a reset satisfy the invariant whatever levels, that fit, the driver last
commanded. -/
theorem State.inv_of_reset (c : Config) (levels : Levels) (inputs : List Cycle)
    (fits : ∀ ch, levels.get ch < 2 ^ c.pwmW) :
    State.Inv { State.resetFor c with levels := levels, inputs := inputs } :=
  ⟨State.encoderInv_of_zero rfl rfl, fun _ => rfl, by simp [State.ButtonInv, State.resetFor], nofun, nofun, nofun,
    fits⟩

/-- Settles O38: the channels start at level 0, which fits. -/
theorem resetSatisfiesTheInvariant : Obligations.ResetSatisfiesTheInvariant := by
  unfold Obligations.ResetSatisfiesTheInvariant
  intro c
  refine State.inv_of_reset c ⟨0, 0, 0, 0⟩ [] fun ch => ?_
  cases ch with
  | ch1 | ch2 | ch3 | ch4 => exact Nat.two_pow_pos _

/-- A property that does not speak of the samples holds after a step if reset edges and operations keep it. -/
theorem step_keeps {P : State → Prop} (samples : ∀ s inputs, P s → P { s with inputs := inputs })
    (reset : ∀ s, P s → P s.resetEdge) (operation : ∀ i s t, P s → exec i s = .next t → P t) {s t : State}
    (holds : P s) (h : step s = .next t) : P t := by
  have taken : P s.takeSample.2 := s.takeSample_snd ▸ samples s s.inputs.tail holds
  obtain rfl | rfl | ⟨i, -, ran⟩ := step_next_cases h
  · exact operation .nop _ _ taken (exec_nop _)
  · exact reset _ taken
  · exact operation i _ _ taken ran

/-- Settles O39: a reset establishes the invariant, and every operation keeps each of its parts. -/
theorem everyStepKeepsTheInvariant : Obligations.EveryStepKeepsTheInvariant := by
  unfold Obligations.EveryStepKeepsTheInvariant
  intro s t
  refine step_keeps (P := State.Inv) (fun _ _ inv => inv) (fun s inv => ?_) (fun _ _ _ => exec_keeps_inv)
  obtain ⟨-, -, -, -, -, -, fits⟩ := inv
  exact State.inv_of_reset s.cfg s.levels s.inputs fits

/-- Settles O40: the values of the invariant are bounded by parameters that fit the widths. -/
theorem registersFitTheirWidths : Obligations.RegistersFitTheirWidths := by
  unfold Obligations.RegistersFitTheirWidths
  rintro s ⟨-, value_le, raw_le⟩
  exact ⟨Nat.lt_of_le_of_lt value_le Nat.lt_log2_self, Nat.lt_of_le_of_lt raw_le s.cfg.maxCount_fits,
    Nat.lt_of_le_of_lt value_le s.cfg.n_fits⟩

end Sys2Proof.Machine
end

section
/-! PROOFS. Runs of operations (60_exceptions.md R216; 95_test_vectors.md Q4, Q9 to Q11, Q13). A run with a next
state is a chain of operations, `Run`, that carries its outputs; each rule is an induction over it from a lemma
about one operation. -/

namespace Sys2Proof.Machine

/-! ### Runs -/

theorem execAll_cons_of_next {i : Instr} {s u : State} (ran : exec i s = .next u) (is : List Instr) :
    execAll (i :: is) s = execAll is u := by
  simp [execAll, ran]

theorem outputsOf_cons_of_next {i : Instr} {s u : State} (ran : exec i s = .next u) (is : List Instr) :
    outputsOf (i :: is) s = u.out :: outputsOf is u := by
  simp [outputsOf, ran]

/-- The first operation of a run that answers a next state answers one. -/
theorem exists_next_of_execAll_cons {i : Instr} {is : List Instr} {s t : State}
    (h : execAll (i :: is) s = .next t) : ∃ u, exec i s = .next u ∧ execAll is u = .next t := by
  unfold execAll at h
  split at h
  case h_1 u ran => exact ⟨u, ran, h⟩
  all_goals cases h

/-- The operations `is` run from the first state to the second, with the outputs in between. -/
inductive Run : List Instr → State → List Out → State → Prop
  | nil {s : State} : Run [] s [] s
  | cons {i : Instr} {is : List Instr} {s u t : State} {os : List Out} (ran : exec i s = .next u)
      (rest : Run is u os t) : Run (i :: is) s (u.out :: os) t

/-- A run with a next state is a chain of operations with the run's outputs. -/
theorem run_of_execAll {is : List Instr} {s t : State} (h : execAll is s = .next t) :
    Run is s (outputsOf is s) t := by
  induction is generalizing s with
  | nil =>
    cases h
    exact .nil
  | cons i is ih =>
    obtain ⟨u, ran, rest⟩ := exists_next_of_execAll_cons h
    rw [outputsOf_cons_of_next ran]
    exact .cons ran (ih rest)

/-! ### Operations presented one per clock edge -/

/-- The samples to come pass through an operation. -/
theorem exec_with_inputs {i : Instr} {s t : State} (h : exec i s = .next t) (inputs : List Cycle) :
    exec i { s with inputs := inputs } = .next { t with inputs := inputs } := by
  have passed := exec_with_heartbeat_out_inputs h s.hbLed s.out inputs
  rwa [← exec_hbLed h] at passed

/-- A step at a sample that carries an operation's word is the operation. -/
theorem step_of_operation {s : State} {w : Nat} {i : Instr} {rest : List Cycle}
    (inputs : s.inputs = ⟨false, true, w⟩ :: rest) (decoded : decode s.cfg.rawW w = .ok i) :
    step s = exec i { s with inputs := rest } := by
  rw [step_of_cons inputs, State.clockEdge, if_neg Bool.false_ne_true, if_pos rfl, State.acceptWord]
  simp only [decoded]

/-- Settles O4: the four samples that a step can find. -/
theorem stepRunsTheDecodedOperation : Obligations.StepRunsTheDecodedOperation := by
  unfold Obligations.StepRunsTheDecodedOperation
  intro s rest w v
  refine ⟨fun i => step_of_operation, fun inputs => ?_, fun inputs => ?_, step_of_nil⟩
  · rw [step_of_cons inputs, State.clockEdge_of_rst _ rfl]
    rfl
  · rw [step_of_cons inputs, State.clockEdge_of_idle _ rfl rfl]
    rfl

theorem step_presentAll_cons {s : State} {i : Instr} (wf : i.wellFormed s.cfg.rawW = true) (is : List Instr) :
    step (s.presentAll (i :: is)) = exec i (s.presentAll is) :=
  step_of_operation rfl (decode_encode wf)

/-- The operations presented after an operation are still presented when it has run. -/
theorem exec_presentAll {i : Instr} {s t : State} (h : exec i s = .next t) (is : List Instr) :
    exec i (s.presentAll is) = .next (t.presentAll is) := by
  unfold State.presentAll
  rw [exec_with_inputs h, exec_cfg h, exec_inputs h]

theorem Run.runSteps_presentAll {is : List Instr} {s t : State} {os : List Out} (run : Run is s os t)
    (wf : ∀ i ∈ is, i.wellFormed s.cfg.rawW = true) : runSteps is.length (s.presentAll is) = .next t := by
  induction run with
  | nil => rfl
  | @cons i is s u t os ran rest ih =>
    obtain ⟨wf_first, wf_rest⟩ := List.forall_mem_cons.mp wf
    have first : step (s.presentAll (i :: is)) = .next (u.presentAll is) := by
      rw [step_presentAll_cons wf_first, exec_presentAll ran]
    simp only [List.length_cons, runSteps, first]
    exact ih (exec_cfg ran ▸ wf_rest)

/-- Settles O42, by induction on the run: each step decodes the operation it presents and leaves the others
presented. -/
theorem presentedOperationsRunInOrder : Obligations.PresentedOperationsRunInOrder := by
  unfold Obligations.PresentedOperationsRunInOrder
  exact fun is s t wf h => (run_of_execAll h).runSteps_presentAll wf

/-! ### Edges -/

/-- An operation reports the one edge that `is_pressed` allows, and sets `is_pressed` by it
(42_button_debouncer.md R156). -/
theorem exec_edge_cases {i : Instr} {s t : State} (inv : s.ButtonInv) (h : exec i s = .next t) :
    (t.out.edge = .none ∧ t.isPressed = s.isPressed)
    ∨ (t.out.edge = .pressed ∧ s.isPressed = false ∧ t.isPressed = true)
    ∨ (t.out.edge = .released ∧ s.isPressed = true ∧ t.isPressed = false) := by
  cases exec_effect h with
  | press settling reading =>
    have differs := inv.mp settling
    exact .inr (.inl ⟨rfl, by simpa [reading] using differs, rfl⟩)
  | release settling reading =>
    have differs := inv.mp settling
    exact .inr (.inr ⟨rfl, by simpa [reading] using differs, rfl⟩)
  | ignored | heartbeat | blink | wrapLow | wrapHigh | count => exact .inl ⟨rfl, rfl⟩

theorem outputsOf_edges_alternate (is : List Instr) {s : State} (inv : s.ButtonInv) :
    AlternatesFrom s.isPressed ((outputsOf is s).map (fun o => o.edge)) := by
  induction is generalizing s with
  | nil => trivial
  | cons i is ih =>
    unfold outputsOf
    split
    case h_1 u ran =>
      have later := ih (exec_keeps_buttonInv inv ran)
      rw [List.map_cons]
      obtain ⟨edge, same⟩ | ⟨edge, before, after⟩ | ⟨edge, before, after⟩ := exec_edge_cases inv ran
      · rw [edge]
        exact same ▸ later
      · rw [edge]
        exact ⟨before, after ▸ later⟩
      · rw [edge]
        exact ⟨before, after ▸ later⟩
    all_goals trivial

/-- Settles O43, by induction on the operations under the invariant of the button. -/
theorem edgesAlternateAlongEveryRun : Obligations.EdgesAlternateAlongEveryRun := by
  unfold Obligations.EdgesAlternateAlongEveryRun
  exact fun is _ => outputsOf_edges_alternate is

/-! ### Presses and the active channel -/

theorem pressCount_cons_of_pressed {o : Out} (pressed : o.edge = .pressed) (os : List Out) :
    pressCount (o :: os) = pressCount os + 1 :=
  List.countP_cons_of_pos (decide_eq_true pressed)

theorem pressCount_cons_of_not_pressed {o : Out} (other : o.edge ≠ .pressed) (os : List Out) :
    pressCount (o :: os) = pressCount os :=
  List.countP_cons_of_neg (by simpa using other)

/-- A run that reports no press reports none in its first operation nor in the others. -/
theorem pressCount_cons_eq_zero_iff {o : Out} {os : List Out} :
    pressCount (o :: os) = 0 ↔ o.edge ≠ .pressed ∧ pressCount os = 0 := by
  by_cases pressed : o.edge = .pressed
  · simp [pressCount_cons_of_pressed, pressed]
  · simp [pressCount_cons_of_not_pressed, pressed]

theorem Run.activeChannel {is : List Instr} {s t : State} {os : List Out} (run : Run is s os t) :
    t.activeChannel = (Channel.next^[pressCount os]) s.activeChannel := by
  induction run with
  | nil => rfl
  | @cons i is s u t os ran rest ih =>
    obtain ⟨pressed, advanced⟩ | ⟨other, same⟩ := channelAdvancesExactlyOnPress i s u ran
    · rw [ih, advanced, pressCount_cons_of_pressed pressed, Function.iterate_succ_apply]
    · rw [ih, same, pressCount_cons_of_not_pressed other]

/-- Settles O44: one place per press by induction on the run, and four places are the whole cycle. -/
theorem activeChannelCountsPresses : Obligations.ActiveChannelCountsPresses := by
  unfold Obligations.ActiveChannelCountsPresses
  intro is s t h
  have counted := (run_of_execAll h).activeChannel
  refine ⟨counted, fun four => ?_⟩
  rw [counted, four]
  exact s.activeChannel.next_next_next_next

/-- The channel and the blink target change together, in a press (44_blink_sequencer.md R193). -/
theorem exec_targetChannel_of_not_pressed {i : Instr} {s t : State} (h : exec i s = .next t)
    (other : t.out.edge ≠ .pressed) : t.targetChannel = s.targetChannel := by
  cases exec_effect h with
  | press => exact absurd rfl other
  | ignored | heartbeat | blink | release | wrapLow | wrapHigh | count => rfl

theorem exec_activeChannel_of_not_pressed {i : Instr} {s t : State} (h : exec i s = .next t)
    (other : t.out.edge ≠ .pressed) : t.activeChannel = s.activeChannel := by
  obtain ⟨pressed, -⟩ | ⟨-, same⟩ := channelAdvancesExactlyOnPress i s t h
  · exact absurd pressed other
  · exact same

theorem Run.target_trails {is : List Instr} {s t : State} {os : List Out} (run : Run is s os t)
    (start : s.activeChannel = s.targetChannel.next ∨ 0 < pressCount os) :
    t.activeChannel = t.targetChannel.next := by
  induction run with
  | nil =>
    obtain trails | impossible := start
    · exact trails
    · cases impossible
  | @cons i is s u t os ran rest ih =>
    refine ih ?_
    by_cases pressed : u.out.edge = .pressed
    · obtain ⟨-, -, active, -, -, target⟩ := exec_pressed ran pressed
      exact .inl (by rw [active, target])
    · rwa [exec_activeChannel_of_not_pressed ran pressed, exec_targetChannel_of_not_pressed ran pressed,
        ← pressCount_cons_of_not_pressed pressed]

/-- Settles O56, by induction on the run: a press establishes the relation and everything else keeps both channels.
-/
theorem targetTrailsTheActiveChannel : Obligations.TargetTrailsTheActiveChannel := by
  unfold Obligations.TargetTrailsTheActiveChannel
  exact fun is s t h => (run_of_execAll h).target_trails

/-! ### The heartbeat -/

theorem Run.hbLed {is : List Instr} {s t : State} {os : List Out} (run : Run is s os t) :
    t.hbLed = (s.hbLed ^^ decide (is.count .tickHeartbeat % 2 = 1)) := by
  induction run with
  | nil => simp
  | @cons i is s u t os ran rest ih =>
    rw [ih, exec_hbLed ran]
    by_cases tick : i = .tickHeartbeat
    · obtain even | odd := Nat.mod_two_eq_zero_or_one (is.count .tickHeartbeat)
      · simp [tick, Nat.add_mod, even]
      · simp [tick, Nat.add_mod, odd]
    · simp [tick]

/-- Settles O45, by induction on the run: a heartbeat tick inverts the level and the parity. -/
theorem heartbeatParity : Obligations.HeartbeatParity := by
  unfold Obligations.HeartbeatParity
  exact fun is s t h => (run_of_execAll h).hbLed

/-! ### The levels -/

/-- The commands to one channel in an output history. -/
def commandsTo (ch : Channel) (os : List Out) : List PwmCommand :=
  (commandsOf os).filter (fun c => decide (c.channel = ch))

theorem lastCommanded_eq (ch : Channel) (before : Nat) (os : List Out) :
    lastCommanded ch before os = ((commandsTo ch os).getLast?.map PwmCommand.value).getD before := by
  unfold lastCommanded commandsTo
  split
  case h_1 silent => simp [silent]
  case h_2 command => simp [command]

/-- The first step's command, if it is to the channel, takes the place of the level before. -/
theorem lastCommanded_cons (ch : Channel) (before : Nat) (o : Out) (os : List Out) :
    lastCommanded ch before (o :: os) = lastCommanded ch (o.levelAfter ch before) os := by
  simp only [lastCommanded_eq, commandsTo, commandsOf, List.filterMap_cons]
  cases command : o.pwm with
  | none => rw [Out.levelAfter_of_none command]
  | some cmd =>
    rw [Out.levelAfter_of_some command, List.filter_cons]
    by_cases same : cmd.channel = ch
    · simp [same, List.getLast?_cons]
    · simp [same, Ne.symm same]

theorem Run.level {is : List Instr} {s t : State} {os : List Out} (run : Run is s os t) (ch : Channel) :
    t.levels.get ch = lastCommanded ch (s.levels.get ch) os := by
  induction run with
  | nil => rfl
  | cons ran rest ih => rw [ih, exec_level ran, lastCommanded_cons]

/-- Settles O47, by induction on the run: the first command leaves the level that the rest of the run starts from. -/
theorem levelsAreTheLastCommands : Obligations.LevelsAreTheLastCommands := by
  unfold Obligations.LevelsAreTheLastCommands
  exact fun is s t ch h => (run_of_execAll h).level ch

end Sys2Proof.Machine
end

section
/-! PROOFS. A blink sequence along a run (44_blink_sequencer.md; 95_test_vectors.md Q10): what an armed sequence has
still to play is its plan from the present step on, each blink tick plays the first command of it, and nothing else
but a press touches it. -/

namespace Sys2Proof.Machine

/-- The four commands of a whole sequence: on, off, on, off. -/
def blinkPlan (c : Config) (target : Channel) : List PwmCommand :=
  [⟨target, c.blinkFull, .blink⟩, ⟨target, 0, .blink⟩, ⟨target, c.blinkFull, .blink⟩, ⟨target, 0, .blink⟩]

/-- What the sequencer has still to play. -/
def State.blinkRemaining (s : State) : List PwmCommand :=
  if s.armed then (blinkPlan s.cfg s.targetChannel).drop s.step else []

theorem State.blinkRemaining_of_armed {s : State} (armed : s.armed = true) :
    s.blinkRemaining = (blinkPlan s.cfg s.targetChannel).drop s.step :=
  if_pos armed

theorem State.blinkRemaining_of_idle {s : State} (idle : s.armed = false) : s.blinkRemaining = [] :=
  if_neg (ne_true_of_eq_false idle)

/-- Step by step the plan is the command of BLINK_STEP and the plan from the next step on (R187). -/
theorem drop_blinkPlan (c : Config) (target : Channel) (step : StepIndex) :
    (blinkPlan c target).drop step
      = ⟨target, blinkLevel c step, .blink⟩
        :: if step = 3 then [] else (blinkPlan c target).drop (step + 1 : StepIndex) := by
  fin_cases step <;> rfl

/-- The sequencer is Idle exactly when nothing remains: an armed one has its present step to play. -/
theorem State.armed_eq_false_iff (s : State) : s.armed = false ↔ s.blinkRemaining = [] := by
  cases armed : s.armed with
  | false => simp [State.blinkRemaining_of_idle armed]
  | true =>
    rw [State.blinkRemaining_of_armed armed, drop_blinkPlan]
    simp

/-- The blink command of a step, if there is one. -/
def Out.blinkCommands (o : Out) : List PwmCommand := blinkCommandsOf [o]

theorem blinkCommandsOf_cons (o : Out) (os : List Out) :
    blinkCommandsOf (o :: os) = o.blinkCommands ++ blinkCommandsOf os := by
  simp only [Out.blinkCommands, blinkCommandsOf, commandsOf, ← List.filter_append, ← List.filterMap_append,
    List.singleton_append]

theorem Out.blinkCommands_of_none {o : Out} (silent : o.pwm = none) : o.blinkCommands = [] := by
  simp [Out.blinkCommands, blinkCommandsOf, commandsOf, silent]

theorem Out.blinkCommands_of_some {o : Out} {cmd : PwmCommand} (command : o.pwm = some cmd) :
    o.blinkCommands = if cmd.src = .blink then [cmd] else [] := by
  by_cases blink : cmd.src = .blink <;> simp [Out.blinkCommands, blinkCommandsOf, commandsOf, command, blink]

/-- A blink tick plays the first command of what remains, if there is one. -/
theorem exec_tickBlink_plays {s t : State} (h : exec .tickBlink s = .next t) :
    t.out.blinkCommands = s.blinkRemaining.take 1 ∧ t.blinkRemaining = s.blinkRemaining.drop 1 := by
  cases exec_effect h with
  | ignored idle =>
    rw [State.blinkRemaining_of_idle idle, State.blinkRemaining_of_idle (s := s.accept) idle]
    exact ⟨rfl, rfl⟩
  | blink armed =>
    rw [State.blinkRemaining_of_armed armed, drop_blinkPlan]
    refine ⟨rfl, ?_⟩
    by_cases last : s.step = 3 <;> simp [State.blinkRemaining, last]

/-- An operation that neither is a blink tick nor reports a press leaves the sequencer alone. -/
theorem exec_other_plays_nothing {i : Instr} {s t : State} (h : exec i s = .next t) (notTick : i ≠ .tickBlink)
    (notPressed : t.out.edge ≠ .pressed) :
    t.out.blinkCommands = [] ∧ t.blinkRemaining = s.blinkRemaining := by
  cases exec_effect h with
  | blink => exact absurd rfl notTick
  | press => exact absurd rfl notPressed
  | ignored | heartbeat | release | wrapLow | wrapHigh => exact ⟨rfl, rfl⟩
  | count rawCount rawDir btnPin ready inside notLow notHigh =>
    refine ⟨?_, rfl⟩
    by_cases same : candidate rawCount = s.logicalValue
    · exact Out.blinkCommands_of_none (if_pos same)
    · exact Out.blinkCommands_of_some (cmd := ⟨s.activeChannel, candidate rawCount, .normalizer⟩) (if_neg same)

/-- A run without a press plays one command of what remains per blink tick, as long as there is one. -/
theorem Run.plays {is : List Instr} {s t : State} {os : List Out} (run : Run is s os t) (quiet : pressCount os = 0) :
    blinkCommandsOf os = s.blinkRemaining.take (is.count .tickBlink)
      ∧ t.blinkRemaining = s.blinkRemaining.drop (is.count .tickBlink) := by
  induction run with
  | nil => exact ⟨rfl, rfl⟩
  | @cons i is s u t os ran rest ih =>
    obtain ⟨notPressed, quiet_rest⟩ := pressCount_cons_eq_zero_iff.mp quiet
    obtain ⟨played, remaining⟩ := ih quiet_rest
    rw [blinkCommandsOf_cons, played, remaining]
    by_cases tick : i = .tickBlink
    · subst tick
      obtain ⟨first, after⟩ := exec_tickBlink_plays ran
      rw [first, after, List.count_cons_self, Nat.add_comm, List.take_add, List.drop_drop]
      exact ⟨rfl, rfl⟩
    · obtain ⟨first, after⟩ := exec_other_plays_nothing ran tick notPressed
      rw [first, after, List.count_cons_of_ne tick]
      exact ⟨rfl, rfl⟩

/-- Settles O46: from Step0 the whole plan remains, each blink tick plays one command of it, and the sequencer is
Idle when nothing remains. -/
theorem blinkSequencePlaysOnOffOnOff : Obligations.BlinkSequencePlaysOnOffOnOff := by
  unfold Obligations.BlinkSequencePlaysOnOffOnOff
  intro is s t armed first h quiet
  obtain ⟨played, remaining⟩ := (run_of_execAll h).plays quiet
  have plan : s.blinkRemaining = blinkPlan s.cfg s.targetChannel := by
    rw [State.blinkRemaining_of_armed armed, first]
    rfl
  rw [plan] at played remaining
  refine ⟨played, ?_⟩
  rw [State.armed_eq_false_iff, remaining]
  exact List.drop_eq_nil_iff

end Sys2Proof.Machine
end

section
/-! PROOFS. The dial (41_encoder_normalizer.md section 4): on a coherent bench one raw tick with its POLL is one
turn of the clamped dial. Past an end stop the counter wraps, and the wrap step loads it with the stop again. -/

namespace Sys2Proof.Machine

/-- The counter stands at the dial's position, and the button is released and not settling. -/
def Bench.Coherent (b : Bench) : Prop :=
  b.block.EncoderInv ∧ b.counter.value = b.block.rawPosition ∧ b.block.settling = false
    ∧ b.block.isPressed = false

theorem Bench.poll_of_next {b : Bench} {btnPin : Bool} {t : State}
    (ran : exec (.poll b.counter.value b.counter.down btnPin) b.block = .next t) :
    b.poll btnPin = .next ⟨t, b.counter.afterStep t.out⟩ := by
  simp only [Bench.poll, ran]

/-- An effective POLL on a released button does not start a settle. -/
theorem exec_poll_released_keeps_ready {s t : State} {rawCount : Nat} {rawDir : Bool} (ready : s.settling = false)
    (released : s.isPressed = false) (h : exec (.poll rawCount rawDir true) s = .next t) :
    t.settling = false ∧ t.isPressed = false := by
  cases exec_effect h with
  | ignored => exact ⟨ready, released⟩
  | wrapLow | wrapHigh | count => exact ⟨by simp [released], released⟩

/-- Where an effective POLL leaves `raw_position`: the wrap branches take the count for the far end of the counter
and stay at the stop, the normal branch follows the count. -/
theorem exec_poll_position {s t : State} {rawCount : Nat} {rawDir btnPin : Bool} (ready : s.settling = false)
    (h : exec (.poll rawCount rawDir btnPin) s = .next t) :
    (rawCount = s.cfg.maxCount ∧ s.logicalValue = 0 ∧ t.rawPosition = 0)
    ∨ (rawCount < 4 ∧ s.logicalValue = s.cfg.n ∧ t.rawPosition = s.cfg.maxCount)
    ∨ (¬ (rawCount = s.cfg.maxCount ∧ s.logicalValue = 0) ∧ ¬ (rawCount < 4 ∧ s.logicalValue = s.cfg.n)
        ∧ t.rawPosition = rawCount) := by
  cases exec_effect h with
  | ignored settling => exact absurd settling (ne_true_of_eq_false ready)
  | wrapLow rawCount rawDir btnPin ready inside cand value =>
    exact .inl ⟨(candidate_eq_n_iff inside).mp cand, value, rfl⟩
  | wrapHigh rawCount rawDir btnPin ready inside cand value =>
    exact .inr (.inl ⟨(candidate_eq_zero_iff rawCount).mp cand, value, rfl⟩)
  | count rawCount rawDir btnPin ready inside notLow notHigh =>
    rw [candidate_eq_n_iff inside] at notLow
    rw [candidate_eq_zero_iff] at notHigh
    exact .inr (.inr ⟨notLow, notHigh, rfl⟩)

/-- After an effective POLL the counter stands at the position: where the position is not the count, the counter is
loaded with it. -/
theorem Counter.afterStep_poll {s t : State} {k : Counter} {btnPin : Bool} (ready : s.settling = false)
    (h : exec (.poll k.value k.down btnPin) s = .next t) : (k.afterStep t.out).value = t.rawPosition := by
  cases exec_effect h with
  | ignored settling => exact absurd settling (ne_true_of_eq_false ready)
  | wrapLow | wrapHigh | count => rfl

theorem Counter.turn_value_le {k : Counter} {maxCount : Nat} (inside : k.value ≤ maxCount) (turn : Turn) :
    (k.turn maxCount turn).value ≤ maxCount := by
  cases turn with
  | up =>
    simp only [Counter.turn]
    split <;> omega
  | down =>
    simp only [Counter.turn]
    split <;> omega

/-- A POLL of the counter turned by one raw tick turns the dial. -/
theorem exec_poll_turned {s t : State} {k : Counter} {turn : Turn} {rawDir btnPin : Bool} (inv : s.EncoderInv)
    (agrees : k.value = s.rawPosition) (ready : s.settling = false)
    (h : exec (.poll (k.turn s.cfg.maxCount turn).value rawDir btnPin) s = .next t) :
    t.rawPosition = dialTurn s.cfg.maxCount s.rawPosition turn := by
  obtain ⟨value, -, inside⟩ := inv
  replace value : s.logicalValue = s.rawPosition / 4 := value
  have two := s.cfg.two_le_n
  have position := exec_poll_position ready h
  cases turn with
  | up =>
    simp only [Counter.turn, agrees, maxCount_eq, value] at position inside
    simp only [dialTurn, maxCount_eq]
    split at position <;> omega
  | down =>
    simp only [Counter.turn, agrees, maxCount_eq, value] at position inside
    simp only [dialTurn]
    split at position <;> omega

/-- One raw tick with its POLL turns the dial and keeps the bench coherent. -/
theorem Bench.turnAndPoll_turns_dial {b : Bench} (coherent : b.Coherent) (turn : Turn) :
    ∃ b', b.turnAndPoll turn = .next b' ∧ b'.Coherent ∧ b'.block.cfg = b.block.cfg
      ∧ b'.block.rawPosition = dialTurn b.block.cfg.maxCount b.block.rawPosition turn := by
  obtain ⟨inv, agrees, ready, released⟩ := coherent
  have inside : b.counter.value ≤ b.block.cfg.maxCount := by
    obtain ⟨-, -, raw_le⟩ := inv
    rwa [agrees]
  have ran := exec_poll_of_inside (b.counter.turn b.block.cfg.maxCount turn).down true ready
    (Counter.turn_value_le inside turn)
  exact ⟨_, Bench.poll_of_next ran,
    ⟨exec_keeps_encoderInv inv ran, Counter.afterStep_poll ready ran,
      exec_poll_released_keeps_ready ready released ran⟩,
    exec_cfg ran, exec_poll_turned inv agrees ready ran⟩

theorem Bench.runTurns_cons_of_next {b b' : Bench} {turn : Turn} (ran : b.turnAndPoll turn = .next b')
    (turns : List Turn) : Bench.runTurns (turn :: turns) b = Bench.runTurns turns b' := by
  simp only [Bench.runTurns, ran]

/-- Any number of raw ticks turn the dial as often. -/
theorem Bench.runTurns_turns_dial {b : Bench} (coherent : b.Coherent) (turns : List Turn) :
    ∃ b', Bench.runTurns turns b = .next b' ∧ b'.Coherent
      ∧ b'.block.rawPosition = turns.foldl (dialTurn b.block.cfg.maxCount) b.block.rawPosition := by
  induction turns generalizing b with
  | nil => exact ⟨b, rfl, coherent, rfl⟩
  | cons turn turns ih =>
    obtain ⟨b₁, ran, coherent₁, cfg, position⟩ := Bench.turnAndPoll_turns_dial coherent turn
    obtain ⟨b', rest, coherent', final⟩ := ih coherent₁
    refine ⟨b', by rw [Bench.runTurns_cons_of_next ran, rest], coherent', ?_⟩
    rw [final, cfg, position, List.foldl_cons]

/-- Settles O48, by induction on the ticks. -/
theorem dialSticksAtBothEnds : Obligations.DialSticksAtBothEnds := by
  unfold Obligations.DialSticksAtBothEnds
  intro turns b inv agrees ready released
  obtain ⟨b', ran, ⟨⟨value, -⟩, agrees', -⟩, position⟩ :=
    Bench.runTurns_turns_dial ⟨inv, agrees, ready, released⟩ turns
  exact ⟨b', ran, position, value, agrees'⟩

end Sys2Proof.Machine
end

section
/-! PROOFS. The order of two operations (60_exceptions.md R216, 44_blink_sequencer.md R193). -/

namespace Sys2Proof.Machine

theorem exists_next_of_execAll_pair {i j : Instr} {s t : State} (h : execAll [i, j] s = .next t) :
    ∃ u, exec i s = .next u ∧ exec j u = .next t := by
  obtain ⟨u, first, rest⟩ := exists_next_of_execAll_cons h
  obtain ⟨v, second, done⟩ := exists_next_of_execAll_cons rest
  cases done
  exact ⟨u, first, second⟩

theorem execAll_pair {i j : Instr} {s u t : State} (first : exec i s = .next u) (second : exec j u = .next t) :
    execAll [i, j] s = .next t := by
  rw [execAll_cons_of_next first, execAll_cons_of_next second]
  rfl

/-- Settles O35: an operation passes the heartbeat level through, inverted if it is a heartbeat tick itself. -/
theorem heartbeatCommutesWithEveryOperation : Obligations.HeartbeatCommutesWithEveryOperation := by
  unfold Obligations.HeartbeatCommutesWithEveryOperation
  intro i s t h
  obtain ⟨u, ticked, ran⟩ := exists_next_of_execAll_pair h
  cases (exec_tickHeartbeat s).symm.trans ticked
  have alone : exec i s = _ := exec_with_heartbeat_out_inputs ran s.hbLed s.out s.inputs
  refine ⟨_, execAll_pair alone (exec_tickHeartbeat _), ?_⟩
  have level : t.hbLed = !(s.hbLed ^^ decide (i = .tickHeartbeat)) := by
    rw [exec_hbLed ran, Bool.not_xor]
  have inputs : t.inputs = s.inputs := by simpa using exec_inputs ran
  rw [State.accept, ← level, ← inputs]

/-- While a sequence is in flight its target is not the active channel. -/
theorem State.ChannelInv.targetChannel_ne {s : State} (inv : s.ChannelInv) (armed : s.armed = true) :
    s.targetChannel ≠ s.activeChannel := by
  rw [inv armed]
  exact s.targetChannel.next_ne.symm

/-- Two commands to different channels may come in either order. -/
theorem Levels.set_comm (l : Levels) {ch ch' : Channel} (v v' : Nat) (differ : ch ≠ ch') :
    (l.set ch v).set ch' v' = (l.set ch' v').set ch v := by
  cases ch <;> cases ch' <;> simp [Levels.set] at differ ⊢

/-- A POLL does not write `armed` (10_state.md R20). -/
theorem exec_poll_armed {s t : State} {rawCount : Nat} {rawDir btnPin : Bool}
    (h : exec (.poll rawCount rawDir btnPin) s = .next t) : t.armed = s.armed := by
  cases exec_effect h <;> rfl

/-- Settles O36. While Idle the tick has no effect. While armed neither operation reads what the other writes but the
levels, and their commands are to different channels. -/
theorem blinkTickCommutesWithPoll : Obligations.BlinkTickCommutesWithPoll := by
  unfold Obligations.BlinkTickCommutesWithPoll
  intro s t rawCount rawDir btnPin inv h
  obtain ⟨u, ticked, polled⟩ := exists_next_of_execAll_pair h
  cases exec_effect ticked with
  | ignored idle =>
    rw [exec_accept] at polled
    have still_idle : t.armed = false := (exec_poll_armed polled).trans idle
    exact ⟨_, execAll_pair polled (exec_of_ignores still_idle), rfl⟩
  | blink armed =>
    have differ := inv.targetChannel_ne armed
    cases exec_effect polled with
    | ignored settling =>
      exact ⟨_, execAll_pair (Effect.exec_eq (.ignored settling)) (Effect.exec_eq (.blink armed)), rfl⟩
    | wrapLow rawCount rawDir btnPin ready inside cand value =>
      exact ⟨_, execAll_pair (Effect.exec_eq (.wrapLow rawCount rawDir btnPin ready inside cand value))
        (Effect.exec_eq (.blink armed)), rfl⟩
    | wrapHigh rawCount rawDir btnPin ready inside cand value =>
      exact ⟨_, execAll_pair (Effect.exec_eq (.wrapHigh rawCount rawDir btnPin ready inside cand value))
        (Effect.exec_eq (.blink armed)), rfl⟩
    | count rawCount rawDir btnPin ready inside notLow notHigh =>
      refine ⟨_, execAll_pair (Effect.exec_eq (.count rawCount rawDir btnPin ready inside notLow notHigh))
        (Effect.exec_eq (.blink armed)), ?_⟩
      by_cases same : candidate rawCount = s.logicalValue
      · simp [same]
      · simp [same, Levels.set_comm _ _ _ differ]

end Sys2Proof.Machine
end

section
/-! PROOFS. Hazards and corner cases (70_reset_and_hazards.md; 30_encoding.md section 5; 44_blink_sequencer.md
R190). -/

namespace Sys2Proof.Machine

/-! ### Wraps -/

/-- Settles O49: the stale count has the same candidate, so it takes the same branch, which reads nothing that the
first wrap step wrote. -/
theorem staleCountAfterWrapIsHarmless : Obligations.StaleCountAfterWrapIsHarmless := by
  unfold Obligations.StaleCountAfterWrapIsHarmless
  intro s t rawCount rawCount' rawDir rawDir' ready released h wraps inside' stale
  replace stale : candidate rawCount' = candidate rawCount := stale
  cases exec_effect h with
  | wrapLow rawCount rawDir btnPin ready inside cand value =>
    exact Effect.exec_eq (.wrapLow rawCount' rawDir' true (by simp [released]) inside' (stale.trans cand) value)
  | wrapHigh rawCount rawDir btnPin ready inside cand value =>
    exact Effect.exec_eq (.wrapHigh rawCount' rawDir' true (by simp [released]) inside' (stale.trans cand) value)
  | ignored | count => exact absurd rfl wraps

/-- An effective POLL whose candidate is neither 0 nor `N` and changes the value is accepted as a change and
commanded to the active channel. -/
theorem exec_poll_accepts_change {s : State} {rawCount : Nat} (rawDir btnPin : Bool) (ready : s.settling = false)
    (low : 4 ≤ rawCount) (high : rawCount < s.cfg.maxCount) (changed : candidate rawCount ≠ s.logicalValue) :
    ∃ t, exec (.poll rawCount rawDir btnPin) s = .next t ∧ t.logicalValue = candidate rawCount
      ∧ t.out.valueChanged = true ∧ t.out.wrapEvent = .none
      ∧ t.out.pwm = some ⟨s.activeChannel, candidate rawCount, .normalizer⟩ := by
  have inside := Nat.le_of_lt high
  have notTop := mt (candidate_eq_n_iff inside).mp (Nat.ne_of_lt high)
  have notBottom := mt (candidate_eq_zero_iff rawCount).mp (Nat.not_lt.mpr low)
  exact ⟨_, Effect.exec_eq (.count rawCount rawDir btnPin ready inside (fun top => notTop top.1)
    (fun bottom => notBottom bottom.1)), rfl, decide_eq_true changed, rfl, if_neg changed⟩

/-- Settles O50: `MAX_COUNT - 1` has the candidate `N - 1`, which is a change from 0 that no wrap branch takes. -/
theorem missedWrapJumpsTheDial : Obligations.MissedWrapJumpsTheDial := by
  unfold Obligations.MissedWrapJumpsTheDial
  intro s rawDir btnPin ready value
  have two := s.cfg.two_le_n
  have jump : candidate (s.cfg.maxCount - 1) = s.cfg.n - 1 := by
    rw [candidate_eq, maxCount_eq]
    omega
  obtain ⟨t, ran, landed, event, noWrap, command⟩ := exec_poll_accepts_change (rawCount := s.cfg.maxCount - 1) rawDir
    btnPin ready (by rw [maxCount_eq]; omega) (by rw [maxCount_eq]; omega) (by rw [jump, value]; omega)
  rw [jump] at landed command
  exact ⟨t, ran, landed, event, noWrap, command⟩

/-! ### Presses -/

/-- Settles O51: the command of a press is to the channel left, which is not the old target. -/
theorem rearmAbandonsTheOldTarget : Obligations.RearmAbandonsTheOldTarget := by
  unfold Obligations.RearmAbandonsTheOldTarget
  intro s settling reading armed inv
  have differ := inv.targetChannel_ne armed
  refine ⟨_, Effect.exec_eq (.press settling reading), rfl, rfl, rfl, fun v src => ?_,
    Levels.get_set_other _ _ differ⟩
  simp [differ.symm]

/-- Settles O53: the position is a count of the same candidate and the direction bit is the present one, so the POLL
only samples the button. -/
theorem pressPseudoOperationReportsAPress : Obligations.PressPseudoOperationReportsAPress := by
  unfold Obligations.PressPseudoOperationReportsAPress
  intro s inv ready released
  obtain ⟨value, -, inside⟩ := inv
  replace value : candidate s.rawPosition = s.logicalValue := value.symm
  have two := s.cfg.two_le_n
  have direction : decodeDirection s.direction.bit = s.direction := by
    cases s.direction <;> rfl
  have polled := Effect.exec_eq (.count s.rawPosition s.direction.bit false ready inside (by omega) (by omega))
  refine ⟨_, _, rfl, polled.trans ?_, rfl, Effect.exec_eq (.press rfl rfl), rfl, rfl⟩
  simp [value, direction, released, Out.idle]

/-- What a channel and the dial keep from a press to the first accepted change: the channel is the active one, the
dial is at 0, the blink target is another channel, and the channel's level is `level`. -/
structure State.Fresh (s : State) (ch : Channel) (level : Nat) : Prop where
  active : s.activeChannel = ch
  value : s.logicalValue = 0
  target : s.targetChannel ≠ ch
  level : s.levels.get ch = level

/-- An operation that changes no value and reports no press keeps a fresh channel fresh: the one command left is the
blink sequencer's, to another channel. -/
theorem State.Fresh.exec {i : Instr} {s t : State} {ch : Channel} {level : Nat} (fresh : s.Fresh ch level)
    (h : exec i s = .next t) (unchanged : t.out.valueChanged = false) (notPressed : t.out.edge ≠ .pressed) :
    t.Fresh ch level := by
  obtain ⟨active, value, target, level_eq⟩ := fresh
  cases exec_effect h with
  | press => exact absurd rfl notPressed
  | blink => exact ⟨active, value, target, (Levels.get_set_other _ _ target.symm).trans level_eq⟩
  | count rawCount rawDir btnPin ready inside notLow notHigh =>
    have same : candidate rawCount = s.logicalValue := by simpa using unchanged
    exact ⟨active, same.trans value, target, by simpa [same] using level_eq⟩
  | ignored | heartbeat | release | wrapLow | wrapHigh => exact ⟨active, value, target, level_eq⟩

theorem Run.cfg {is : List Instr} {s t : State} {os : List Out} (run : Run is s os t) : t.cfg = s.cfg := by
  induction run with
  | nil => rfl
  | cons ran rest ih => rw [ih, exec_cfg ran]

theorem Run.fresh {is : List Instr} {s t : State} {os : List Out} (run : Run is s os t) {ch : Channel} {level : Nat}
    (fresh : s.Fresh ch level) (unchanged : ∀ o ∈ os, o.valueChanged = false) (quiet : pressCount os = 0) :
    t.Fresh ch level := by
  induction run with
  | nil => exact fresh
  | cons ran rest ih =>
    obtain ⟨unchanged_first, unchanged_rest⟩ := List.forall_mem_cons.mp unchanged
    obtain ⟨notPressed, quiet_rest⟩ := pressCount_cons_eq_zero_iff.mp quiet
    exact ih (fresh.exec ran unchanged_first notPressed) unchanged_rest quiet_rest

/-- Settles O52: a press leaves the next channel fresh, the run keeps it so, and the POLL accepts a change from 0. -/
theorem newChannelJumpsAtTheFirstChange : Obligations.NewChannelJumpsAtTheFirstChange := by
  unfold Obligations.NewChannelJumpsAtTheFirstChange
  intro s settling reading
  refine ⟨_, Effect.exec_eq (.press settling reading), fun is u h unchanged quiet => ?_⟩
  have next_ne := s.activeChannel.next_ne
  have run := run_of_execAll h
  have fresh := run.fresh (ch := s.activeChannel.next) ⟨rfl, rfl, next_ne.symm, Levels.get_set_other _ _ next_ne⟩
    unchanged quiet
  refine ⟨fresh.level, fun rawCount rawDir btnPin ready low high => ?_⟩
  have changed : candidate rawCount ≠ u.logicalValue := by
    rw [fresh.value, ne_eq, candidate_eq_zero_iff]
    omega
  rw [← show u.cfg = s.cfg from run.cfg] at high
  obtain ⟨v, ran, -, event, -, command⟩ := exec_poll_accepts_change rawDir btnPin ready low high changed
  rw [fresh.active] at command
  refine ⟨v, ran, event, command, ?_⟩
  rw [exec_level ran, Out.levelAfter_of_some command, if_pos rfl, candidate_eq]

end Sys2Proof.Machine
end

section
/-! PROOFS. The output ports (30_encoding.md R81, R87). -/

namespace Sys2Proof.Machine

theorem Channel.code_eq_ite (ch : Channel) :
    ch.code = if ch = .ch1 then 0 else if ch = .ch2 then 1 else if ch = .ch3 then 2 else 3 := by
  cases ch <;> rfl

theorem Direction.code_eq_ite (d : Direction) : d.code = if d = .cw then 0 else 1 := by
  cases d <;> rfl

theorem Edge.code_eq_ite (e : Edge) : e.code = if e = .none then 0 else if e = .pressed then 1 else 2 := by
  cases e <;> rfl

theorem WrapEvent.code_eq_ite (w : WrapEvent) : w.code = if w = .none then 0 else if w = .low then 1 else 2 := by
  cases w <;> rfl

theorem PwmSrc.code_eq_ite (src : PwmSrc) :
    src.code = if src = .normalizer then 1 else if src = .selector then 2 else 3 := by
  cases src <;> rfl

/-- A strobe shows whether its payload is there. -/
theorem bitOf_isSome_eq_ite {α : Type} (o : Option α) : bitOf o.isSome = if o = none then 0 else 1 := by
  cases o <;> simp [bitOf]

/-- Settles O54, by the codes. -/
theorem statusOutputsShowTheRegisters : Obligations.StatusOutputsShowTheRegisters := by
  unfold Obligations.StatusOutputsShowTheRegisters
  exact fun s => ⟨rfl, rfl, rfl, s.direction.code_eq_ite, rfl, s.activeChannel.code_eq_ite, rfl, rfl,
    s.targetChannel.code_eq_ite, rfl⟩

/-- Settles O55, by the codes. -/
theorem eventOutputsShowTheStep : Obligations.EventOutputsShowTheStep := by
  unfold Obligations.EventOutputsShowTheStep
  intro s
  refine ⟨rfl, rfl, rfl, s.out.wrapEvent.code_eq_ite, s.out.edge.code_eq_ite, bitOf_isSome_eq_ite _,
    fun _ load => load, bitOf_isSome_eq_ite _, fun silent => congrArg pwmSrcCode silent, fun ch v src command => ?_⟩
  simp only [State.ports, command, Option.map_some, ← Channel.code_eq_ite]
  exact ⟨trivial, trivial, src.code_eq_ite⟩

theorem WrapEvent.code_le_two (w : WrapEvent) : w.code ≤ 2 := by
  cases w <;> decide

theorem Edge.code_le_two (e : Edge) : e.code ≤ 2 := by
  cases e <;> decide

theorem PwmSrc.code_bounds (src : PwmSrc) : 1 ≤ src.code ∧ src.code ≤ 3 := by
  cases src <;> decide

/-- Settles O41: the codes are the assigned ones, and the command port shows a command or none. -/
theorem outputPortsShowOnlyAssignedCodes : Obligations.OutputPortsShowOnlyAssignedCodes := by
  unfold Obligations.OutputPortsShowOnlyAssignedCodes
  intro s
  refine ⟨s.out.wrapEvent.code_le_two, s.out.edge.code_le_two, ?_⟩
  cases command : s.out.pwm with
  | none => simp [State.ports, command, pwmSrcCode, bitOf]
  | some cmd =>
    obtain ⟨assigned, le_three⟩ := cmd.src.code_bounds
    simp [State.ports, command, pwmSrcCode, bitOf, Nat.one_le_iff_ne_zero.mp assigned, le_three]

end Sys2Proof.Machine
end
